-- ==== Sys2Proof/Word.lean ====
section
/-! DEFINITION. The two word types of the block and their fixed constants (00_scope.md R8, R11).
The primitives of the datapath stand in Machine/Operands.lean. -/

namespace Sys2Proof

/-- A byte, "a natural number in 0..255" (R11); its `+` and `-` wrap mod 256 (R12). -/
abbrev Byte := BitVec 8

/-- A 32-bit register or command word (10_state.md R20, 30_encoding.md R63). -/
abbrev Word := BitVec 32

/-- KEY_BYTES, also PAD_TO (R8): a buffer of at most this length is short. -/
abbrev keyBytes : Nat := 16

/-- OFFSET_COUNT (R8). -/
abbrev offsetCount : Nat := 8

/-- OFFSET_DIVISOR (R8): offset count + 1. -/
abbrev offsetDivisor : Nat := 9

/-- SENTINEL (R8): key size + 1. -/
abbrev sentinel : Nat := 17

end Sys2Proof
end

