-- ==== Sys2Proof/Config.lean ====
section
/-! DEFINITION. What an implementation fixes (00_scope.md R9) and the free values of the model
(93_implementation_defined.md): fields of one structure, of which the machine has one constant with
no body, so that nothing can be proved about a value of them beyond R9's bounds. -/

namespace Sys2Proof

/-- The open parameters of R9 and every value the spec leaves open. The definitions of the machine take it as
an argument ("The model takes each as an argument", R9); exec and step use `Config.chip`. -/
structure Config where
  /-- BUF_CAP less 25; its range is exactly R9's 25 ≤ BUF_CAP ≤ 2^32 − 4096. -/
  capExtra : Fin 4294963176
  /-- MIX_LANES less 1, so that MIX_LANES ≥ 1 (R9). -/
  lanesExtra : Nat
  /-- KEY_HASH64, a total function of the 16 key bytes (R9; U6). -/
  keyHash64 : Vector Byte 16 → BitVec 64
  /-- HASH128, host side only (R9; 41_key.md R79; U7). -/
  hash128 : List Byte → Vector Byte 16
  /-- The random source's answer to its n-th draw (R7, R17; U4, U5). FREE VALUE. -/
  draw : Nat → Byte
  /-- How many positions lane k of the command with index n takes (44_byte_mixer.md R113; U8). FREE VALUE. -/
  laneCut : Nat → Nat → Nat
  /-- Which lane of the command with index n advances when t positions are left (R114; U8). FREE VALUE. -/
  lanePick : Nat → Nat → Nat
  /-- BUF[j] after the n-th reset (R36, R150, R151; U13, U14). FREE VALUE. -/
  bufReset : Nat → Nat → Byte
  /-- KHASH after the n-th reset (R34, R150; U16). FREE VALUE. -/
  khashReset : Nat → BitVec 64
  /-- OFF after the n-th reset (R35, R150; U16). FREE VALUE. -/
  offReset : Nat → Vector Byte 8
  /-- OFF after a command has ended (R35, R137; U16). FREE VALUE. -/
  offAfter : Nat → Vector Byte 8
  /-- BUF[j] beyond the result of a DECRYPT (45_transform.md R118; U15). FREE VALUE. -/
  bufAfter : Nat → Nat → Byte
  /-- What a read that violates the host protocol returns, as a number of which the access takes its width's low bits
  (20_memory.md R51, 70_reset_and_hazards.md R153). FREE VALUE. -/
  violationRead : Nat → Nat
deriving Inhabited

/-- The machine's configuration: a constant WITHOUT A BODY, so a theorem about it holds for every value of
every field (log 1). -/
opaque Config.chip : Config

/-- BUF_CAP (R9, R30). -/
def Config.bufCap (cfg : Config) : Nat := 25 + cfg.capExtra.val

/-- MIX_LANES (R9). -/
def Config.mixLanes (cfg : Config) : Nat := cfg.lanesExtra + 1

end Sys2Proof
end

