-- ==== Sys2Proof/Machine/State.lean ====
section
/-! DEFINITION. The state of one SYMCRYPT core with its host's program and the schedule (10_state.md R19, R42), as
plain data, and the state after reset (70_reset_and_hazards.md R150). -/

namespace Sys2Proof.Machine

/-- The error codes (60_exceptions.md R128). Values 7 to 15 have no constructor: they are "never produced". -/
inductive ErrCode where
  /-- 0, success. -/
  | none
  /-- 1 (R129). -/
  | illegalCmd
  /-- 2 (R130). -/
  | lenRange
  /-- 3 (R131). -/
  | noKey
  /-- 4 (R132). -/
  | capacity
  /-- 5 (R133). -/
  | decShort
  /-- 6 (R134). -/
  | decMarker
deriving DecidableEq, Repr

/-- Is a number of bits a width other than 8, 16 and 32? -/
def isOtherWidth (bits : Nat) : Bool := decide (0 < bits) && decide (bits ∉ [8, 16, 32])

/-- "Any other width" of an access (92_eei_decisions.md D30, 70_reset_and_hazards.md R153 (d)), 64 bits for one: a number
of bits (log 27). -/
abbrev OtherWidth := { bits : Nat // isOtherWidth bits = true }

/-- A host bus access: its kind, its block-relative offset, its value (30_encoding.md R74). The 16-bit ones and those of
any other width are never permitted (20_memory.md R50, R51, 70_reset_and_hazards.md R153 (d)). -/
inductive HostAccess where
  /-- `RB off`. -/
  | read8 (off : Nat)
  /-- A 16-bit read. -/
  | read16 (off : Nat)
  /-- `R off`. -/
  | read32 (off : Nat)
  /-- A read of any other width. -/
  | readOther (width : OtherWidth) (off : Nat)
  /-- `WB off, v`. -/
  | write8 (off : Nat) (v : Byte)
  /-- A 16-bit write. -/
  | write16 (off : Nat) (v : BitVec 16)
  /-- `W off, v`. -/
  | write32 (off : Nat) (v : Word)
  /-- A write of any other width, of the number's low bits. -/
  | writeOther (width : OtherWidth) (off : Nat) (v : Nat)
deriving DecidableEq, Repr

/-- The kinds of access the fault mark records (70_reset_and_hazards.md R157). -/
inductive AccessKind where
  | read8
  | read16
  | read32
  | readOther (width : OtherWidth)
  | write8
  | write16
  | write32
  | writeOther (width : OtherWidth)
deriving DecidableEq, Repr

/-- What the fault mark records: "the violating access's kind and offset" (R157). -/
structure Violation where
  kind : AccessKind
  offset : Nat
deriving DecidableEq, Repr

/-- A statement of the host's program (30_encoding.md R73, R74). -/
inductive HostOp where
  /-- One bus access (R74). -/
  | access (a : HostAccess)
  /-- `POLL`: repeat `R STATUS` until bit [0] of the value read is 0 (R73). -/
  | poll
  /-- The end of `ENC` and `DEC`: `R LEN` giving N', then `RB BUF+j` for j = 0..N'-1 (R73). -/
  | readBuffer
deriving DecidableEq, Repr

/-- What a read returned to the host, and where it read (R74: "whose result is written -> name"); the value is a number
below 2 to the width of the access (log 21). -/
structure Reading where
  kind : AccessKind
  offset : Nat
  value : Nat
deriving DecidableEq, Repr

/-- One turn of the schedule: the agent that moves, or a reset that arrives (00_scope.md R7, 20_memory.md R56,
70_reset_and_hazards.md R151). -/
inductive Turn where
  | host
  | engine
  | reset
deriving DecidableEq, Repr

/-- No step of this machine stops with a fault: the hardware answers every command (60_exceptions.md R149 (a)), and a
host protocol violation, the spec's one "model fault", is the sticky mark of the state (R149 (b), R157; log 8). So
nobody raises one, and there is no constructor. -/
inductive Fault where
deriving DecidableEq, Repr

/-- Why a step has no meaning. -/
inductive Refusal where
  /-- Raised by exec's arm of a command that has no meaning yet; safe. No arm raises it: all three have theirs. -/
  | notModelled (mnemonic : String)
deriving DecidableEq, Repr

/-- A memory of bytes: (address, byte) pairs, addresses strictly rising. -/
abbrev Memory := List Host.Cell

/-- The canonical form: strictly rising addresses. What an unlisted address reads as is no fixed byte (`Memory.byte`
in Machine/Ops.lean takes it as an argument), so no entry can equal it (log 3). -/
abbrev Memory.wf (m : Memory) : Prop := List.Pairwise (fun c d => c.1 < d.1) m

/-- The state (R19, R42). -/
structure State where
  /-- STATUS.BUSY, a command is in flight (R23). -/
  busy : Bool
  /-- STATUS.DONE (R24). -/
  done : Bool
  /-- STATUS.ERR (R25). -/
  err : Bool
  /-- STATUS.KEY_VALID (R27). -/
  keyValid : Bool
  /-- STATUS.OVR (R28). -/
  ovr : Bool
  /-- STATUS.ERRCODE (R26). -/
  errcode : BitVec 4
  /-- PEND, the accepted command word (R40). -/
  pend : Word
  /-- LEN (R29). -/
  len : Word
  /-- KEYIN0 to KEYIN3, staging byte 4w + b in KEYINw bits [8b+7:8b] (R31). -/
  keyin : Vector Byte 16
  /-- KEY[0..15] (R33). -/
  key : Vector Byte 16
  /-- KHASH (R34). -/
  khash : BitVec 64
  /-- OFF[0..7] (R35). -/
  off : Vector Byte 8
  /-- BUF[0..BUF_CAP-1] (R36). -/
  mem : Memory
  /-- The sticky fault mark (70_reset_and_hazards.md R157): the first violating access, if there was one. -/
  mark : Option Violation
  /-- The host's statements still to be executed, in program order (R74). The model's own field. -/
  program : List HostOp
  /-- What the host's reads returned, oldest first (R74). The model's own field. -/
  readings : List Reading
  /-- The schedule: who moves next (20_memory.md R56). The model's own field (log 7). -/
  turns : List Turn
  /-- How many draws the random source has answered (R121). The model's own field (log 2). -/
  draws : Nat
  /-- The index of the next command's free values. The model's own field (log 5). -/
  frees : Nat
  /-- How many resets have arrived in this run. The model's own field (log 3). -/
  resets : Nat
deriving DecidableEq, Repr

/-- The state after reset under a configuration (R150, R152): every register 0, no key, idle, mark clear, BUF with
nothing listed; KHASH and OFF "unspecified", so free values. -/
def State.resetFor (cfg : Config) : State :=
  { busy := false, done := false, err := false, keyValid := false, ovr := false
    errcode := 0, pend := 0, len := 0
    keyin := Vector.replicate 16 0, key := Vector.replicate 16 0
    khash := cfg.khashReset 0, off := cfg.offReset 0
    mem := [], mark := none
    program := [], readings := [], turns := []
    draws := 0, frees := 0, resets := 0 }

/-- The machine right after reset (R150). -/
def State.reset : State := State.resetFor Config.chip

end Sys2Proof.Machine
end

