-- ==== Sys2Proof/Machine/Flags.lean ====
section
/-! DEFINITION. The STATUS register: its fields' places (10_state.md R22) and what acceptance and completion of a
command write in it (R21, R23 to R28). There are no arithmetic flags (R38). -/

namespace Sys2Proof.Machine

/-- The 4-bit code of an error (60_exceptions.md R128). -/
def ErrCode.bits : ErrCode → BitVec 4
  | .none => 0
  | .illegalCmd => 1
  | .lenRange => 2
  | .noKey => 3
  | .capacity => 4
  | .decShort => 5
  | .decMarker => 6

/-- What a read of STATUS returns: ERRCODE [11:8], OVR [4], KEY_VALID [3], ERR [2], DONE [1], BUSY [0], every other
bit 0 (R22). -/
def State.statusWord (s : State) : Word :=
  0#20 ++ s.errcode ++ 0#3 ++ BitVec.ofBool s.ovr ++ BitVec.ofBool s.keyValid ++ BitVec.ofBool s.err
    ++ BitVec.ofBool s.done ++ BitVec.ofBool s.busy

/-- A CMD write while BUSY = 0 accepts the word (R21). -/
def State.accept (s : State) (w : Word) : State :=
  { s with pend := w, busy := true, done := false, err := false, errcode := 0, ovr := false }

/-- A CMD write while BUSY = 1 is dropped and sets OVR (R28). -/
def State.overrun (s : State) : State := { s with ovr := true }

/-- Completion with a code: BUSY <- 0, DONE <- 1, PEND <- 0 (R23), ERR and ERRCODE by the code (R25, R26). -/
def State.finish (s : State) (c : ErrCode) : State :=
  { s with busy := false, done := true, pend := 0, err := decide (c ≠ .none), errcode := c.bits }

end Sys2Proof.Machine
end

