-- ==== Sys2Proof/Machine/Ops.lean ====
section
/-! DEFINITION. The named operations over the buffer memory (00_scope.md R15), the end of a command with success or
with an error (R17, 60_exceptions.md R137, R139), the fault mark (70_reset_and_hazards.md R157) and a reset that
arrives during a run (R151). -/

namespace Sys2Proof.Machine

/-- What an unlisted address holds: no value of its own; "the model draws each byte" (R150; log 3). -/
def Memory.unlisted : Option Byte := none

/-- The byte listed at an address, if one is. -/
def Memory.get : Memory → Nat → Option Byte
  | [], _ => Memory.unlisted
  | (a, b) :: m, j => if a = j then some b else Memory.get m j

/-- The memory with the byte at an address written, addresses kept rising. -/
def Memory.put : Memory → Nat → Byte → Memory
  | [], j, v => [(j, v)]
  | (a, b) :: m, j, v =>
    if j < a then (j, v) :: (a, b) :: m
    else if j = a then (j, v) :: m
    else (a, b) :: Memory.put m j v

/-- The byte at an address, `free j` where none has been written since reset. -/
def Memory.byte (free : Nat → Byte) (m : Memory) (j : Nat) : Byte := (m.get j).getD (free j)

/-- The memory with positions start, start + 1, ..., start + n − 1 written with g 0, g 1, ..., in ascending order. -/
def Memory.fill (start n : Nat) (g : Nat → Byte) (m : Memory) : Memory :=
  (List.range n).foldl (fun m k => m.put (start + k) (g k)) m

/-- `MemRead(j, 1)`, the byte BUF[j] (R15). -/
def State.bufByte (cfg : Config) (s : State) (j : Nat) : Byte := s.mem.byte (cfg.bufReset s.resets) j

/-- `MemWrite(j, 1, v)` (R15). -/
def State.setBufByte (s : State) (j : Nat) (v : Byte) : State := { s with mem := s.mem.put j v }

/-- LEN <- v (10_state.md R29). -/
def State.setLen (s : State) (v : Word) : State := { s with len := v }

/-- After a DECRYPT of n bytes with a result of n' bytes, BUF[n'..n) holds unspecified values: free ones
(45_transform.md R118; log 6). -/
def State.dropBytes (cfg : Config) (s : State) (n' n : Nat) : State :=
  { s with mem := s.mem.fill n' (n - n') fun k => cfg.bufAfter s.frees (n' + k) }

/-- OFF is internal: between commands its value is unspecified (10_state.md R35) and after an error it "may hold any
value" (60_exceptions.md R137), so it takes a free value (log 5). -/
def State.releaseOff (cfg : Config) (s : State) : State :=
  { s with off := cfg.offAfter s.frees, frees := s.frees + 1 }

/-- `complete()`: the command ends successfully (R17, 10_state.md R23 to R26). -/
def State.complete (s : State) : State := s.finish .none

/-- `raise Error(code)`, the block's one "trap entry": the command ends at once; only STATUS changes, nothing is saved
and no mode changes (R17, R127, R137, R139). The return from it is the next accepted CMD write, which clears the error
status (R140): `State.accept`. -/
def State.raiseError (cfg : Config) (s : State) (c : ErrCode) : State := (s.finish c).releaseOff cfg

/-- A host protocol violation sets the mark; a mark once set stays (R157). -/
def State.setMark (s : State) (v : Violation) : State := { s with mark := s.mark.or (some v) }

/-- The host's program becomes `p` (30_encoding.md R74). -/
def State.setProgram (s : State) (p : List HostOp) : State := { s with program := p }

/-- The schedule becomes `ts` (log 7). -/
def State.setTurns (s : State) (ts : List Turn) : State := { s with turns := ts }

/-- The host has read one more value (R74). -/
def State.addReading (s : State) (r : Reading) : State := { s with readings := s.readings ++ [r] }

/-- KEYIN <- v (10_state.md R31). -/
def State.setKeyin (s : State) (v : Vector Byte 16) : State := { s with keyin := v }

/-- One free value has been used up (log 5, log 9). -/
def State.useFree (s : State) : State := { s with frees := s.frees + 1 }

/-- A reset that arrives during a run: it abandons the command, sets every register to its reset value and leaves BUF
unspecified (R151); the fault mark is "never cleared (not even by reset within a run)" (R157). The host's program, what
it has read, the schedule and the counters are not the block's and stay. -/
def State.applyReset (cfg : Config) (s : State) : State :=
  { State.resetFor cfg with
    khash := cfg.khashReset (s.resets + 1), off := cfg.offReset (s.resets + 1)
    resets := s.resets + 1
    mark := s.mark, program := s.program, readings := s.readings, turns := s.turns
    draws := s.draws, frees := s.frees }

end Sys2Proof.Machine
end

