-- ==== Sys2Proof/Machine/Key.lean ====
section
/-! DEFINITION. LOADKEY (41_key.md R75). -/

namespace Sys2Proof.Machine

/-- LOADKEY: all 16 staging bytes into KEY in one step, KHASH from the new key, KEY_VALID <- 1, complete (R75). -/
def State.loadKey (cfg : Config) (s : State) : State :=
  { s with key := s.keyin, khash := cfg.keyHash64 s.keyin, keyValid := true }.complete

/-- The meaning of LOADKEY (R75). -/
def execLoadkey (s : State) : Host.Outcome State Fault Refusal := .next (s.loadKey Config.chip)

end Sys2Proof.Machine
end

