-- ==== Sys2Proof/Machine/Operands.lean ====
section
/-! DEFINITION. The primitives of the datapath (00_scope.md R12 to R14), the packing of bytes into words
(20_memory.md R47), the key-hash bytes (43_offset_embedder.md R94) and the implicit operands of a position: its key
byte, offset index and crypto offset (44_byte_mixer.md R101 to R103). -/

namespace Sys2Proof.Machine

/-- `popcount8(x)`, the number of 1 bits of x[7:0] (R13; PRESUMED, the spec's G1, log 16). -/
def popcount8 (x : Byte) : Nat := ((List.range 8).map fun k => (x.getLsbD k).toNat).sum

/-- `rotl8(x, r) = ((x << r) | (x >> (8 − r))) mod 256` for r ≤ 7 (R14; PRESUMED, the spec's G2, log 16). -/
def rotl8 (x : Byte) (r : Nat) : Byte := (x <<< r) ||| (x >>> (8 - r))

/-- `rotr8(x, r) = ((x >> r) | (x << (8 − r))) mod 256` for r ≤ 7 (R14; PRESUMED, the spec's G2, log 16). -/
def rotr8 (x : Byte) (r : Nat) : Byte := (x >>> r) ||| (x <<< (8 - r))

/-- The word of four bytes, the byte of lowest address in bits [7:0] (R47). -/
def wordOfBytes (b0 b1 b2 b3 : Byte) : Word := b3 ++ b2 ++ b1 ++ b0

/-- Byte lane b of a word, bits [8b+7:8b] (R47). -/
def byteLane (w : Word) (b : Nat) : Byte := w.extractLsb' (8 * b) 8

/-- Byte k mod 16 of a 16-byte file; KEY[k] for k in 0..15 (R16). -/
def fileByte (v : Vector Byte 16) (k : Nat) : Byte := v[k % 16]'(Nat.mod_lt k (by decide))

/-- Register w of a 16-byte file, bits [8b+7:8b] being byte 4w + b (10_state.md R31, R32). -/
def fileWord (v : Vector Byte 16) (w : Nat) : Word :=
  wordOfBytes (fileByte v (4 * w)) (fileByte v (4 * w + 1)) (fileByte v (4 * w + 2)) (fileByte v (4 * w + 3))

/-- The file with byte k mod 16 written. -/
def setFileByte (v : Vector Byte 16) (k : Nat) (b : Byte) : Vector Byte 16 :=
  v.set (k % 16) b (Nat.mod_lt k (by decide))

/-- The file with register w written, four bytes at once (R31, 20_memory.md R52). -/
def setFileWord (v : Vector Byte 16) (w : Nat) (x : Word) : Vector Byte 16 :=
  setFileByte (setFileByte (setFileByte (setFileByte v (4 * w) (byteLane x 0)) (4 * w + 1) (byteLane x 1))
    (4 * w + 2) (byteLane x 2)) (4 * w + 3) (byteLane x 3)

/-- OFF[k mod 8]. -/
def offByte (off : Vector Byte 8) (k : Nat) : Byte := off[k % 8]'(Nat.mod_lt k (by decide))

/-- HB[k], the k-th byte of the key hash, least significant first: "repeatedly take value modulo 256, then divide by
256" (R94). -/
def hashByte (h : BitVec 64) : Nat → Byte
  | 0 => BitVec.ofNat 8 (h.toNat % 256)
  | k + 1 => hashByte (BitVec.ofNat 64 (h.toNat / 256)) k

/-- KB(i) = KEY[i mod 16] (R101). -/
def keyByteAt (key : Vector Byte 16) (i : Nat) : Byte := fileByte key i

/-- OI(i) = (KEY[15] + i + (i div 9)) mod 8, with i exact (R102). -/
def offsetIndex (key : Vector Byte 16) (i : Nat) : Nat :=
  ((fileByte key 15).toNat + i + i / offsetDivisor) % offsetCount

/-- CO(i) = OFF[OI(i)] +8 (i mod 256) +8 KB(i) (R103). -/
def cryptoOffset (key : Vector Byte 16) (off : Vector Byte 8) (i : Nat) : Byte :=
  offByte off (offsetIndex key i) + BitVec.ofNat 8 (i % 256) + keyByteAt key i

end Sys2Proof.Machine
end

