-- ==== Sys2Proof/Machine/Embedder.lean ====
section
/-! DEFINITION. The offset generator and embedder (43_offset_embedder.md): stages OFFSET_GEN (R92), EMBED (R95) and
EXTRACT (R96). -/

namespace Sys2Proof.Machine

/-- The eight offsets g 0 to g 7. -/
def offsetsOf (g : Nat → Byte) : Vector Byte 8 := #v[g 0, g 1, g 2, g 3, g 4, g 5, g 6, g 7]

/-- OFFSET_GEN: eight draws into OFF[0] to OFF[7] (R92). -/
def State.offsetGen (cfg : Config) (s : State) : State :=
  { s with off := offsetsOf fun k => cfg.draw (s.draws + k), draws := s.draws + offsetCount }

/-- EMBED(m): BUF[m+k] <- OFF[k] +8 HB[k] for k in 0..7, with HB of KHASH (R94, R95). -/
def State.embed (s : State) (m : Nat) : State :=
  { s with mem := s.mem.fill m offsetCount fun k => offByte s.off k + hashByte s.khash k }

/-- EXTRACT: OFF[k] <- BUF[m+k] −8 HB[k] for k in 0..7, m = N − 8 (R96). BUF is read and not written. -/
def State.extract (cfg : Config) (s : State) (m : Nat) : State :=
  { s with off := offsetsOf fun k => s.bufByte cfg (m + k) - hashByte s.khash k }

end Sys2Proof.Machine
end

