-- ==== Sys2Proof/Machine/Mixer.lean ====
section
/-! DEFINITION. The per-byte mixer pipeline (44_byte_mixer.md): the byte transforms (R104, R105), the passes (R109,
R110), and the order in which one lane (PAR = 0) or several (PAR = 1) visit the positions (R112 to R114). -/

namespace Sys2Proof.Machine

/-- The rotation amount, the product of two popcounts mod 8 (R106). -/
def rotationAmount (x co : Byte) : Nat := popcount8 x * popcount8 co % 8

/-- ENC_BYTE: add, then rotate left (R104). -/
def encByte (b co : Byte) : Byte := rotl8 (b + co) (rotationAmount (b + co) co)

/-- DEC_BYTE: rotate right by an amount taken from the byte before it is rotated back (R108), then subtract (R105). -/
def decByte (c co : Byte) : Byte := rotr8 c (rotationAmount c co) - co

/-- A lane's range: the next position and how many are left (R113). -/
structure Lane where
  pos : Nat
  left : Nat
deriving DecidableEq, Repr

/-- Contiguous ranges for lanes: each of `k` lanes takes `cut` positions as long as there are that many, and one more
lane takes what is left (R113). The first argument of `cut` is the lane's number counted down. -/
def laneRanges (cut : Nat → Nat) : Nat → Nat → Nat → List Lane
  | 0, start, m => [{ pos := start, left := m }]
  | k + 1, start, m =>
    { pos := start, left := min (cut k) m } :: laneRanges cut k (start + min (cut k) m) (m - min (cut k) m)

/-- One position of lane k, if that lane has one left: the position, and the lanes after it. -/
def advanceLane : Nat → List Lane → Option (Nat × List Lane)
  | _, [] => none
  | 0, l :: ls =>
    if l.left = 0 then advanceLane 0 ls |>.map fun p => (p.1, l :: p.2)
    else some (l.pos, { pos := l.pos + 1, left := l.left - 1 } :: ls)
  | k + 1, l :: ls =>
    match advanceLane k ls with
    | some p => some (p.1, l :: p.2)
    | none => if l.left = 0 then none else some (l.pos, { pos := l.pos + 1, left := l.left - 1 } :: ls)

/-- The interleaving: while `fuel` positions are left, the lane `pick fuel` advances by one position (R114). -/
def laneOrder (pick : Nat → Nat) : Nat → List Lane → List Nat
  | 0, _ => []
  | fuel + 1, ls =>
    match advanceLane (pick fuel) ls with
    | some p => p.1 :: laneOrder pick fuel p.2
    | none => []

/-- The order in which a pass over 0..m−1 visits the positions: ascending for PAR = 0; for PAR = 1 an interleaving of
MIX_LANES lanes over contiguous ranges, partition and interleaving free (R113, R114; log 14). -/
def passOrder (cfg : Config) (index : Nat) (par : Bool) (m : Nat) : List Nat :=
  if par then laneOrder (cfg.lanePick index) m (laneRanges (cfg.laneCut index) cfg.lanesExtra 0 m)
  else List.range m

/-- A pass: each position of the order is read once and written once (R109, R110). -/
def Memory.pass (free : Nat → Byte) (f : Nat → Byte → Byte) (order : List Nat) (m : Memory) : Memory :=
  order.foldl (fun m i => m.put i (f i (m.byte free i))) m

/-- MIX(m) (R109; PAR: R113). -/
def State.mix (cfg : Config) (s : State) (par : Bool) (m : Nat) : State :=
  { s with
    mem := s.mem.pass (cfg.bufReset s.resets) (fun i b => encByte b (cryptoOffset s.key s.off i))
      (passOrder cfg s.frees par m) }

/-- UNMIX(m) (R110; PAR: R113). -/
def State.unmix (cfg : Config) (s : State) (par : Bool) (m : Nat) : State :=
  { s with
    mem := s.mem.pass (cfg.bufReset s.resets) (fun i c => decByte c (cryptoOffset s.key s.off i))
      (passOrder cfg s.frees par m) }

end Sys2Proof.Machine
end

