-- ==== Sys2Proof/Machine/Normalizer.lean ====
section
/-! DEFINITION. The length normalizer and its padding tracker (42_length_normalizer.md): stages NORMALIZE (R86) and
RESTORE (R88). -/

namespace Sys2Proof.Machine

/-- How many padding bytes a buffer of length n gets: 16 − n when it is short (n ≤ 16), none otherwise (R82, R83). -/
def padCount (n : Nat) : Nat := keyBytes - n

/-- P, the marker's position: 16 for a short buffer, n for a long one (R85). -/
def markerPos (n : Nat) : Nat := if n ≤ keyBytes then keyBytes else n

/-- The marker: n for a short buffer, the sentinel 17 for a long one (R84). -/
def markerByte (n : Nat) : Byte := if n ≤ keyBytes then BitVec.ofNat 8 n else BitVec.ofNat 8 sentinel

/-- NORMALIZE(n): one draw for each position n to 15, ascending, then the marker at P (R86). The region to mix has
M = P + 1 bytes. -/
def State.normalize (cfg : Config) (s : State) (n : Nat) : State :=
  { s with
    mem := (s.mem.fill n (padCount n) fun k => cfg.draw (s.draws + k)).put (markerPos n) (markerByte n)
    draws := s.draws + padCount n }

/-- RESTORE: the restored length, by the unmixed marker at M − 1 (R87, R88). -/
def restoredLength (m : Nat) (marker : Byte) : Nat :=
  if marker.toNat ≤ keyBytes then marker.toNat else m - 1

/-- The marker names more bytes than remain before it (R89). -/
def markerInconsistent (m : Nat) (marker : Byte) : Bool :=
  decide (marker.toNat ≤ keyBytes) && decide (m - 1 < marker.toNat)

end Sys2Proof.Machine
end

