-- ==== Sys2Proof/Machine/Transform.lean ====
section
/-! DEFINITION. ENCRYPT and DECRYPT (45_transform.md R115, R116), the stages in the order of 20_memory.md R58 and the
checks in the order of 60_exceptions.md R136. -/

namespace Sys2Proof.Machine

/-- The first error of an ENCRYPT with length n, if one applies (R115, R136). -/
def State.encryptError (cfg : Config) (s : State) : Option ErrCode :=
  if cfg.bufCap < s.len.toNat then some .lenRange
  else if s.keyValid = false then some .noKey
  else if cfg.bufCap < max keyBytes s.len.toNat + 9 then some .capacity
  else none

/-- ENCRYPT after its checks: NORMALIZE, OFFSET_GEN, MIX, EMBED, LEN <- M + 8, complete (R115). -/
def State.encryptBody (cfg : Config) (s : State) (par : Bool) : State :=
  let n := s.len.toNat
  let m := markerPos n + 1
  let t := (((s.normalize cfg n).offsetGen cfg).mix cfg par m).embed m
  ((t.setLen (BitVec.ofNat 32 (m + 8))).releaseOff cfg).complete

/-- ENCRYPT(par) (R115). -/
def State.encrypt (cfg : Config) (s : State) (par : Bool) : State :=
  match s.encryptError cfg with
  | some c => s.raiseError cfg c
  | none => s.encryptBody cfg par

/-- The marker a DECRYPT recovers before it writes any byte, DEC_BYTE(BUF[M−1], CO(M−1)) with the extracted offsets
(R117). -/
def State.recoveredMarker (cfg : Config) (s : State) : Byte :=
  let m := s.len.toNat - 8
  let t := s.extract cfg m
  decByte (t.bufByte cfg (m - 1)) (cryptoOffset t.key t.off (m - 1))

/-- The first error of a DECRYPT, if one applies (R116, R136). -/
def State.decryptError (cfg : Config) (s : State) : Option ErrCode :=
  if cfg.bufCap < s.len.toNat then some .lenRange
  else if s.keyValid = false then some .noKey
  else if s.len.toNat < 9 then some .decShort
  else if markerInconsistent (s.len.toNat - 8) (s.recoveredMarker cfg) then some .decMarker
  else none

/-- DECRYPT after its checks: EXTRACT, UNMIX, RESTORE, LEN <- LEN', complete (R116). The bytes BUF[LEN'..N) take free
values (R118). -/
def State.decryptBody (cfg : Config) (s : State) (par : Bool) : State :=
  let n := s.len.toNat
  let m := n - 8
  let t := (s.extract cfg m).unmix cfg par m
  let n' := restoredLength m (t.bufByte cfg (m - 1))
  (((t.dropBytes cfg n' n).setLen (BitVec.ofNat 32 n')).releaseOff cfg).complete

/-- DECRYPT(par) (R116). -/
def State.decrypt (cfg : Config) (s : State) (par : Bool) : State :=
  match s.decryptError cfg with
  | some c => s.raiseError cfg c
  | none => s.decryptBody cfg par

/-- The meaning of ENCRYPT and ENCRYPT.PAR (R115). -/
def execEncrypt (par : Bool) (s : State) : Host.Outcome State Fault Refusal := .next (s.encrypt Config.chip par)

/-- The meaning of DECRYPT and DECRYPT.PAR (R116). -/
def execDecrypt (par : Bool) (s : State) : Host.Outcome State Fault Refusal := .next (s.decrypt Config.chip par)

end Sys2Proof.Machine
end

