-- ==== Sys2Proof/Syntax.lean ====
section
/-! DEFINITION. The three commands of spec/opcode_table.json, and the fields of a command word
(30_encoding.md R63 to R68). -/

namespace Sys2Proof

/-- The commands (R68). The command word carries no operand but PAR (R67). -/
inductive Instr where
  /-- LOADKEY, 0x00000001 (41_key.md R75). -/
  | loadkey
  /-- ENCRYPT, 0x00000002, and ENCRYPT.PAR, 0x00000012 (45_transform.md R115). -/
  | encrypt (par : Bool)
  /-- DECRYPT, 0x00000003, and DECRYPT.PAR, 0x00000013 (45_transform.md R116). -/
  | decrypt (par : Bool)
deriving DecidableEq, Repr

/-- The fields of a command word (R63). -/
structure CommandFields where
  /-- RSV, bits [31:5]. -/
  rsv : BitVec 27
  /-- PAR, bit [4]. -/
  par : Bool
  /-- OP, bits [3:0]. -/
  op : BitVec 4
deriving DecidableEq, Repr

end Sys2Proof
end

