-- ==== Sys2Proof/Machine/Dispatch.lean ====
section
/-! DEFINITION. One arm per command: the engine performs it (00_scope.md R6). -/

namespace Sys2Proof.Machine

def exec (i : Instr) (s : State) : Host.Outcome State Fault Refusal :=
  match i with
  | .loadkey => Sys2Proof.Machine.execLoadkey s
  | .encrypt par => Sys2Proof.Machine.execEncrypt par s
  | .decrypt par => Sys2Proof.Machine.execDecrypt par s

end Sys2Proof.Machine
end

