-- ==== Sys2Proof/WellFormed.lean ====
section
/-! DEFINITION. The three checks on a command word's fields (30_encoding.md R64 to R66, R70). -/

namespace Sys2Proof

/-- RSV must be 0 (R66). -/
def CommandFields.rsvClear (f : CommandFields) : Bool := f.rsv == 0

/-- OP is one of 0x1, 0x2, 0x3; the other twelve values are reserved (R64). -/
def CommandFields.opDefined (f : CommandFields) : Bool := f.op == 1 || f.op == 2 || f.op == 3

/-- PAR is defined for ENCRYPT and DECRYPT only (R65). -/
def CommandFields.parAllowed (f : CommandFields) : Bool := !(f.op == 1 && f.par)

/-- A legal command word's fields (R70). -/
def CommandFields.wellFormed (f : CommandFields) : Bool := f.rsvClear && f.opDefined && f.parAllowed

/-- The fields that stand for a command: RSV 0, its PAR, its OP (R68). -/
def Instr.fields : Instr → CommandFields
  | .loadkey => { rsv := 0, par := false, op := 1 }
  | .encrypt par => { rsv := 0, par := par, op := 2 }
  | .decrypt par => { rsv := 0, par := par, op := 3 }

/-- A command is well formed when its fields are. No command is excluded: every term of `Instr` is one of the five
legal words (R68). -/
def Instr.wellFormed (i : Instr) : Bool := i.fields.wellFormed

end Sys2Proof
end

