-- ==== Sys2Proof/Decode.lean ====
section
/-! DEFINITION. The decoder of command words, total over all 2^32 words (30_encoding.md R69), and after it the
encoder (R63, R68). -/

namespace Sys2Proof

/-- Why a word is no command. On the hardware the first three are one error, ILLEGAL_CMD (R70); a run of bytes that
is not one word never reaches the engine (R63, R71). -/
inductive Reject where
  /-- Some bit of RSV = word[31:5] is set (R66). -/
  | reservedBits
  /-- OP is 0x0 or 0x4 to 0xF (R64). -/
  | reservedOp
  /-- LOADKEY with PAR = 1 (R65). -/
  | loadkeyPar
  /-- Not four bytes: "No other length exists" (R63). -/
  | notOneWord
deriving DecidableEq, Repr

/-- What the decoder answers. -/
inductive Decoded where
  /-- The word stands for a command. -/
  | command (i : Instr)
  /-- The word stands for none, for the reason given. -/
  | rejected (r : Reject)
deriving DecidableEq, Repr

/-- The fields of a word: RSV = w[31:5], PAR = w[4], OP = w[3:0] (R63). -/
def fieldsOf (w : Word) : CommandFields :=
  { rsv := w.extractLsb' 5 27, par := w.getLsbD 4, op := w.extractLsb' 0 4 }

/-- The decoder of R69, on the fields. -/
def decodeFields (f : CommandFields) : Decoded :=
  if f.rsv ≠ 0 then .rejected .reservedBits
  else if f.op = 1 then
    if f.par then .rejected .loadkeyPar else .command .loadkey
  else if f.op = 2 then .command (.encrypt f.par)
  else if f.op = 3 then .command (.decrypt f.par)
  else .rejected .reservedOp

/-- The decoder of R69. -/
def decode (w : Word) : Decoded := decodeFields (fieldsOf w)

/-- The bytes of a command word as a 32-bit access moves them, lowest address first (20_memory.md R47). -/
def decodeBytes : List Byte → Decoded
  | [b0, b1, b2, b3] => decode (b3 ++ b2 ++ b1 ++ b0)
  | _ => .rejected .notOneWord

/-- The command of a decoded word, if it is one. -/
def Decoded.toOption : Decoded → Option Instr
  | .command i => some i
  | .rejected _ => none

/-- The word with given fields (R63). -/
def wordOfFields (f : CommandFields) : Word := f.rsv ++ BitVec.ofBool f.par ++ f.op

/-- The encoder (R68). -/
def encode (i : Instr) : Word := wordOfFields i.fields

/-- The opcode map's match and mask columns (R68), read by the tests and the statements, not by the decoder. -/
def Instr.matchMask : Instr → Word × Word
  | .loadkey => (0x00000001#32, 0xFFFFFFFF#32)
  | .encrypt _ => (0x00000002#32, 0xFFFFFFEF#32)
  | .decrypt _ => (0x00000003#32, 0xFFFFFFEF#32)

/-- "The five legal words" (R68). -/
def legalWords : List Word :=
  [0x00000001#32, 0x00000002#32, 0x00000012#32, 0x00000003#32, 0x00000013#32]

/-- The command the decoder reads from the command word whose bits are `w`, laid out as four bytes, lowest address
first; every bit above `nbits` is 0. A longer row would be no command word (R71). -/
def decodeTableWord (nbits w : Nat) : Option Instr :=
  if 32 < nbits then none
  else (decodeBytes ((List.range 4).map fun k => BitVec.ofNat 8 (w % 2 ^ nbits / 256 ^ k))).toOption

end Sys2Proof
end

