-- ==== Sys2Proof/Machine/HostPort.lean ====
section
/-! DEFINITION. The host's side of the block: address decode (20_memory.md R45), permitted widths (R50, R51), what is
permitted while a command is in flight (70_reset_and_hazards.md R153, R156), the registers' read and write effects
(10_state.md R20 to R32) and the one operation that performs a host access. -/

namespace Sys2Proof.Machine

/-- What a host offset reaches (10_state.md R20, 20_memory.md R45). -/
inductive Target where
  | cmd
  | status
  | len
  | cap
  /-- KEYINw. -/
  | keyin (w : Nat)
  /-- KEYw. -/
  | key (w : Nat)
  /-- BUF[j]. -/
  | buf (j : Nat)
  /-- RAZ/WI. -/
  | reserved
deriving DecidableEq, Repr

/-- The first offset after the registers; the bytes below belong to 32-bit registers (R20). -/
abbrev registersEnd : Nat := 0x030

/-- The offset of BUF[0] (R20, R45). -/
abbrev bufBase : Nat := 0x1000

/-- Host address decode (R45). -/
def targetOf (cfg : Config) (a : Nat) : Target :=
  if a = 0x000 then .cmd
  else if a = 0x004 then .status
  else if a = 0x008 then .len
  else if a = 0x00C then .cap
  else if a = 0x010 ∨ a = 0x014 ∨ a = 0x018 ∨ a = 0x01C then .keyin ((a - 0x010) / 4)
  else if a = 0x020 ∨ a = 0x024 ∨ a = 0x028 ∨ a = 0x02C then .key ((a - 0x020) / 4)
  else if bufBase ≤ a ∧ a < bufBase + cfg.bufCap then .buf (a - bufBase)
  else .reserved

/-- The offset of an access. -/
def HostAccess.offset : HostAccess → Nat
  | .read8 a | .read16 a | .read32 a | .readOther _ a => a
  | .write8 a _ | .write16 a _ | .write32 a _ | .writeOther _ a _ => a

/-- The kind of an access. -/
def HostAccess.kind : HostAccess → AccessKind
  | .read8 _ => .read8
  | .read16 _ => .read16
  | .read32 _ => .read32
  | .readOther w _ => .readOther w
  | .write8 _ _ => .write8
  | .write16 _ _ => .write16
  | .write32 _ _ => .write32
  | .writeOther w _ _ => .writeOther w

/-- Does the access read? -/
def AccessKind.isRead : AccessKind → Bool
  | .read8 | .read16 | .read32 | .readOther _ => true
  | .write8 | .write16 | .write32 | .writeOther _ => false

/-- The width of an access in bits. -/
def AccessKind.bits : AccessKind → Nat
  | .read8 | .write8 => 8
  | .read16 | .write16 => 16
  | .read32 | .write32 => 32
  | .readOther w | .writeOther w => w.val

/-- A permitted 8-bit access: not to a register, whose bytes are 0x000 to 0x02F (R50, R51; log 11). -/
def widthOk8 (a : Nat) : Bool := decide (registersEnd ≤ a)

/-- A permitted 32-bit access: aligned, and a BUF access wholly inside BUF (R50, R51). -/
def widthOk32 (cfg : Config) (a : Nat) : Bool :=
  decide (a % 4 = 0) &&
    match targetOf cfg a with
    | .buf j => decide (j + 3 < cfg.bufCap)
    | _ => true

/-- The width and alignment of an access are permitted (R50); every 16-bit access (R51) and every access of another width
(70_reset_and_hazards.md R153 (d), 92_eei_decisions.md D30) is a violation. -/
def HostAccess.widthOk (cfg : Config) : HostAccess → Bool
  | .read8 a | .write8 a _ => widthOk8 a
  | .read16 _ | .write16 _ _ | .readOther _ _ | .writeOther _ _ _ => false
  | .read32 a | .write32 a _ => widthOk32 cfg a

/-- A LOADKEY is in flight (70_reset_and_hazards.md R153 (b)). -/
def State.loadkeyInFlight (s : State) : Bool := s.busy && decide (decode s.pend = .command .loadkey)

/-- A read permitted while BUSY: STATUS, CAP, KEY0 to KEY3, KEYIN, the reserved space (R156). -/
def Target.busyReadOk : Target → Bool
  | .status | .cap | .key _ | .keyin _ | .reserved => true
  | .cmd | .len | .buf _ => false

/-- A write permitted while BUSY: KEYIN unless a LOADKEY is in flight (10_state.md R31, R153 (b), R156), the reserved
space (R156; log 10). -/
def State.busyWriteOk (s : State) : Target → Bool
  | .keyin _ => !s.loadkeyInFlight
  | .reserved => true
  | .cmd | .status | .len | .cap | .key _ | .buf _ => false

/-- An access the host may make: a permitted width, and while BUSY one that R156 lists. Every other access is a host
protocol violation (R153). -/
def State.permits (cfg : Config) (s : State) (a : HostAccess) : Bool :=
  a.widthOk cfg &&
    (!s.busy ||
      if a.kind.isRead then (targetOf cfg a.offset).busyReadOk else s.busyWriteOk (targetOf cfg a.offset))

/-- What a permitted 32-bit read returns (10_state.md R20 to R22, R29 to R32; BUF: 20_memory.md R47). -/
def State.read32Value (cfg : Config) (s : State) (a : Nat) : Word :=
  match targetOf cfg a with
  | .cmd => 0
  | .status => s.statusWord
  | .len => s.len
  | .cap => BitVec.ofNat 32 cfg.bufCap
  | .keyin w => fileWord s.keyin w
  | .key w => fileWord s.key w
  | .buf j => wordOfBytes (s.bufByte cfg j) (s.bufByte cfg (j + 1)) (s.bufByte cfg (j + 2)) (s.bufByte cfg (j + 3))
  | .reserved => 0

/-- What a permitted 8-bit read returns (R47, R50). Registers take none. -/
def State.read8Value (cfg : Config) (s : State) (a : Nat) : Byte :=
  match targetOf cfg a with
  | .buf j => s.bufByte cfg j
  | .cmd | .status | .len | .cap | .keyin _ | .key _ | .reserved => 0

/-- What a permitted read returns, zero-extended to a word. A 16-bit read and one of any other width
are never permitted. -/
def State.readValue (cfg : Config) (s : State) : HostAccess → Word
  | .read8 a => (s.read8Value cfg a).setWidth 32
  | .read32 a => s.read32Value cfg a
  | .read16 _ | .readOther _ _ | .write8 _ _ | .write16 _ _ | .write32 _ _ | .writeOther _ _ _ => 0

/-- What a violating read returns: a 32-bit read of CMD is 0 at any time (R21), any other value is unspecified, so free,
and no wider than the access (R51, R153). DESIGN CHOICE (log 9): a read of another width at CMD's offset takes a free
value by R51 and R153 (d), not R21's 0. -/
def State.violationValue (cfg : Config) (s : State) (a : HostAccess) : Nat :=
  if a.kind = .read32 ∧ targetOf cfg a.offset = .cmd then 0 else cfg.violationRead s.frees % 2 ^ a.kind.bits

/-- BUF bytes j to j + 3 written from a word, little-endian (R47). -/
def State.setBufWord (s : State) (j : Nat) (v : Word) : State :=
  { s with mem := s.mem.fill j 4 fun k => byteLane v k }

/-- The effect of a permitted 32-bit write (R20, R21, R29, R31; read-only registers and the reserved space ignore it,
R22, R30, R32, R45). -/
def State.write32 (cfg : Config) (s : State) (a : Nat) (v : Word) : State :=
  match targetOf cfg a with
  | .cmd => s.accept v
  | .len => s.setLen v
  | .keyin w => s.setKeyin (setFileWord s.keyin w v)
  | .buf j => s.setBufWord j v
  | .status | .cap | .key _ | .reserved => s

/-- The effect of a permitted 8-bit write (R47, R50). -/
def State.write8 (cfg : Config) (s : State) (a : Nat) (v : Byte) : State :=
  match targetOf cfg a with
  | .buf j => s.setBufByte j v
  | .cmd | .status | .len | .cap | .keyin _ | .key _ | .reserved => s

/-- The effect of a permitted access on the block; a read has none (20_memory.md R53). -/
def State.writeEffect (cfg : Config) (s : State) : HostAccess → State
  | .write8 a v => s.write8 cfg a v
  | .write32 a v => s.write32 cfg a v
  | .read8 _ | .read16 _ | .read32 _ | .readOther _ _ | .write16 _ _ | .writeOther _ _ _ => s

/-- The effect of a violating access: none, but that a 32-bit CMD write while BUSY sets OVR (R28, R153 (c), R157).
DESIGN CHOICE (log 26): R28 and R153 (c) name any write to CMD while BUSY, while R51 gives an access of a width that R50
does not permit no effect, and the spec does not say which governs; such a write at CMD's offset has no effect here. -/
def State.violationEffect (cfg : Config) (s : State) : HostAccess → State
  | .write32 a _ => if s.busy = true ∧ targetOf cfg a = .cmd then s.overrun else s
  | .read8 _ | .read16 _ | .read32 _ | .readOther _ _ | .write8 _ _ | .write16 _ _ | .writeOther _ _ _ => s

/-- The host records what a read returned (30_encoding.md R74). -/
def State.record (s : State) (a : HostAccess) (value : Nat) : State :=
  if a.kind.isRead then s.addReading { kind := a.kind, offset := a.offset, value := value } else s

/-- One host access (20_memory.md R56). A violation sets the mark with the access's kind and offset and uses up one
free value (70_reset_and_hazards.md R157). -/
def State.hostAccess (cfg : Config) (s : State) (a : HostAccess) : State :=
  if s.permits cfg a then (s.writeEffect cfg a).record a (s.readValue cfg a).toNat
  else
    (((s.violationEffect cfg a).setMark { kind := a.kind, offset := a.offset }).record a
      (s.violationValue cfg a)).useFree

end Sys2Proof.Machine
end

