-- ==== Sys2Proof/Machine/HostProgram.lean ====
section
/-! DEFINITION. The host's program: one move of the host, and the pseudo-operations with their expansions
(30_encoding.md R73, R74). -/

namespace Sys2Proof.Machine

/-- What the last read returned. -/
def State.lastValue (s : State) : Nat := (s.readings.getLast?.map Reading.value).getD 0

/-- `RB BUF+j` for j = 0..n−1 (R73). -/
def readBytes (n : Nat) : List HostOp := (List.range n).map fun j => .access (.read8 (bufBase + j))

/-- One move of the host: its next statement. `POLL` stays at the head until bit [0] of the value read is 0. A program
that has ended does nothing. -/
def State.hostStep (cfg : Config) (s : State) : State :=
  match s.program with
  | [] => s
  | .access a :: rest => (s.setProgram rest).hostAccess cfg a
  | .poll :: rest =>
    let t := s.hostAccess cfg (.read32 0x004)
    if t.lastValue.testBit 0 then t else t.setProgram rest
  | .readBuffer :: rest =>
    let t := s.hostAccess cfg (.read32 0x008)
    t.setProgram (readBytes t.lastValue ++ rest)

/-- `W off, v`. -/
def opW (off : Nat) (v : Word) : HostOp := .access (.write32 off v)

/-- `SETKEY k0, ..., k15` (R73). -/
def setKey (k : Vector Byte 16) : List HostOp :=
  [opW 0x010 (fileWord k 0), opW 0x014 (fileWord k 1), opW 0x018 (fileWord k 2), opW 0x01C (fileWord k 3),
    opW 0x000 (encode .loadkey), .poll]

/-- `SETKEY_ID u`: the identifier's bytes in its own storage order (R73, 41_key.md R78). -/
def setKeyId (u : Vector Byte 16) : List HostOp := setKey u

/-- `SETKEY_STR s`: the key is HASH128(s), computed by the host (R73, 41_key.md R79). -/
def setKeyStr (cfg : Config) (str : List Byte) : List HostOp := setKey (cfg.hash128 str)

/-- The common form of `ENC`, `DEC` and their `.PAR` forms: write the bytes and LEN, issue, poll, read back (R73). -/
def transformOp (i : Instr) (bytes : List Byte) : List HostOp :=
  (bytes.zipIdx.map fun p => .access (.write8 (bufBase + p.2) p.1))
    ++ [opW 0x008 (BitVec.ofNat 32 bytes.length), opW 0x000 (encode i), .poll, .readBuffer]

/-- `ENC b0, ..., b(N−1)` and `ENC.PAR` (R73). -/
def encOp (par : Bool) (bytes : List Byte) : List HostOp := transformOp (.encrypt par) bytes

/-- `DEC b0, ..., b(N−1)` and `DEC.PAR` (R73). -/
def decOp (par : Bool) (bytes : List Byte) : List HostOp := transformOp (.decrypt par) bytes

/-- `KEYREAD` (R73, 41_key.md R76). -/
def keyRead : List HostOp :=
  [.access (.read32 0x020), .access (.read32 0x024), .access (.read32 0x028), .access (.read32 0x02C)]

end Sys2Proof.Machine
end

