-- ==== Sys2Proof/Machine/Engine.lean ====
section
/-! DEFINITION. The agents' moves (00_scope.md R7): the engine's, which decodes PEND and performs the command, and the
turn that says who moves. -/

namespace Sys2Proof.Machine

/-- The command word the engine performs next: PEND (10_state.md R40). The block has no program counter (R37). -/
def State.fetch (s : State) : Word := s.pend

/-- The engine's move: decode the word, then perform the command; an illegal word completes with ILLEGAL_CMD before any
operand is read (30_encoding.md R69, R70, 60_exceptions.md R129, R136). -/
def State.engineStep (s : State) : Host.Outcome State Fault Refusal :=
  match decode s.fetch with
  | .command i => exec i s
  | .rejected _ => .next (s.raiseError Config.chip .illegalCmd)

/-- The engine moves if it is enabled, exactly when BUSY = 1 (R40); otherwise the block is idle and retains its state
(60_exceptions.md R148). -/
def State.engineTurn (s : State) : Host.Outcome State Fault Refusal :=
  if s.busy then s.engineStep else .next s

/-- One move, by the schedule. With nothing scheduled, an issued command is performed, and otherwise the host moves
(log 7). -/
def State.move (s : State) : Host.Outcome State Fault Refusal :=
  match s.turns with
  | [] => if s.busy then s.engineStep else .next (s.hostStep Config.chip)
  | .engine :: ts => (s.setTurns ts).engineTurn
  | .host :: ts => .next ((s.setTurns ts).hostStep Config.chip)
  | .reset :: ts => .next ((s.setTurns ts).applyReset Config.chip)

/-- The state in which a word has just been accepted and the engine moves next (R21; log 12). -/
def State.issue (s : State) (w : Word) : State := (s.setTurns []).accept w

end Sys2Proof.Machine
end

