-- ==== Sys2Proof/Safety.lean ====
section
/-! DEFINITION. What claims are stated in: the invariants of 10_state.md R41, the host-visible state and the end of a
run (70_reset_and_hazards.md R161). -/

namespace Sys2Proof.Machine

/-- The fault mark is clear; "A run with the mark set satisfies no claim" (R157). -/
def State.markClear (s : State) : Prop := s.mark = none

/-- A host program's run has ended (R161). -/
def State.runEnded (s : State) : Prop := s.program = [] ∧ s.busy = false ∧ s.markClear

/-- The final host-visible state "is STATUS, LEN, KEY0 to KEY3, and BUF[0..LEN)" (R161). -/
structure HostView where
  status : Word
  len : Word
  keys : List Word
  buf : List Byte
deriving DecidableEq, Repr

/-- What the host may read of a state (R161). DESIGN CHOICE (log 28): when LEN > BUF_CAP, the view goes on to LEN with
`State.bufByte`, so in a state of `State.bufInside` with free values at the positions that do not exist (60_exceptions.md
R130), though a host's read there returns the reserved space's 0. -/
def State.hostView (cfg : Config) (s : State) : HostView :=
  { status := s.statusWord, len := s.len
    keys := (List.range 4).map (fileWord s.key)
    buf := (List.range s.len.toNat).map (s.bufByte cfg) }

/-- R41 (a): BUSY = 0 implies PEND = 0. -/
def State.idlePendClear (s : State) : Prop := s.busy = false → s.pend = 0

/-- R41 (b): ERR = 1 exactly when ERRCODE ≠ 0, and R26: values 7 to 15 never appear. -/
def State.errMatchesCode (s : State) : Prop := (s.err = true ↔ s.errcode ≠ 0) ∧ s.errcode.toNat ≤ 6

/-- R41 (c): BUSY = 1 implies DONE = 0, ERR = 0 and ERRCODE = 0. -/
def State.busyStatusClear (s : State) : Prop :=
  s.busy = true → s.done = false ∧ s.err = false ∧ s.errcode = 0

/-- R41 (d): KEY_VALID = 1 implies KHASH = KEY_HASH64(KEY). -/
def State.hashMatchesKey (cfg : Config) (s : State) : Prop :=
  s.keyValid = true → s.khash = cfg.keyHash64 s.key

/-- R41 (e): KEY_VALID = 0 implies KEY[k] = 0 for every k. -/
def State.noKeyIsZero (s : State) : Prop := s.keyValid = false → ∀ k, fileByte s.key k = 0

/-- BUF has the canonical form and lies inside 0..BUF_CAP−1 (R36, 20_memory.md R44). -/
def State.bufInside (cfg : Config) (s : State) : Prop := s.mem.wf ∧ ∀ c ∈ s.mem, c.1 < cfg.bufCap

/-- The invariants of R41 (a) to (e), with the form of the buffer. -/
structure State.Inv (cfg : Config) (s : State) : Prop where
  idlePend : s.idlePendClear
  errCode : s.errMatchesCode
  busyStatus : s.busyStatusClear
  hash : s.hashMatchesKey cfg
  noKey : s.noKeyIsZero
  buf : s.bufInside cfg

/-- The state after a command that raised the error with this code: "A command that raises an error changes only STATUS
... the internal OFF latch may hold any value" (60_exceptions.md R137). -/
def State.failed (s : State) (code : BitVec 4) : State :=
  { s with
    busy := false, done := true, err := true, errcode := code, pend := 0
    off := Config.chip.offAfter s.frees, frees := s.frees + 1 }

/-- The offsets an ENCRYPT draws: eight draws after the padding draws (43_offset_embedder.md R92). -/
def State.drawnOffsets (s : State) : Vector Byte 8 :=
  offsetsOf fun k => Config.chip.draw (s.draws + (16 - s.len.toNat) + k)

/-- The offsets a DECRYPT recovers from the last eight bytes (43_offset_embedder.md R96). -/
def State.recoveredOffsets (s : State) : Vector Byte 8 :=
  offsetsOf fun k => s.bufByte Config.chip (s.len.toNat - 8 + k) - hashByte s.khash k

/-- Byte j of the normalized buffer of an ENCRYPT: the original bytes, the padding draws, the marker
(42_length_normalizer.md R83 to R86). -/
def State.normalizedByte (s : State) (j : Nat) : Byte :=
  if j < s.len.toNat then s.bufByte Config.chip j
  else if j < 16 then Config.chip.draw (s.draws + (j - s.len.toNat))
  else if s.len.toNat ≤ 16 then BitVec.ofNat 8 s.len.toNat
  else 17

/-- Byte j of the region as a DECRYPT unmixes it (44_byte_mixer.md R105, R110). -/
def State.unmixedByte (s : State) (j : Nat) : Byte :=
  decByte (s.bufByte Config.chip j) (cryptoOffset s.key s.recoveredOffsets j)

/-- One access among those the host may make reads `v` and changes nothing else (20_memory.md R53). -/
def State.reads (s : State) (a : HostAccess) (v : Word) : Prop :=
  s.hostAccess Config.chip a =
    { s with readings := s.readings ++ [{ kind := a.kind, offset := a.offset, value := v.toNat }] }

end Sys2Proof.Machine
end

