-- ==== Sys2Proof/Certificates/Slice0/Obligations.lean ====
section
/-! DEFINITION. The statements for the provers. Each is about the machine of the spec's numbered rules, for every
state, so for every host program, every schedule and every value of `Config.chip`. -/

open Sys2Proof Sys2Proof.Machine

/-! ## Encoding -/

/-- R68, R69, both directions over all 2^32 words: a word decodes to a command exactly when it is that well-formed
command's encoding. -/
def Obligations.DecodeIffEncode : Prop :=
  ∀ (w : Word) (i : Instr), decode w = .command i ↔ i.wellFormed = true ∧ encode i = w

/-- R68: the opcode map's match and mask columns, and the five legal words. -/
def Obligations.OpcodeMapIsExact : Prop :=
  ∀ w : Word,
    (decode w = .command .loadkey ↔ w &&& 0xFFFFFFFF#32 = 0x00000001#32) ∧
    (∀ par, decode w = .command (.encrypt par) ↔ w &&& 0xFFFFFFEF#32 = 0x00000002#32 ∧ w.getLsbD 4 = par) ∧
    (∀ par, decode w = .command (.decrypt par) ↔ w &&& 0xFFFFFFEF#32 = 0x00000003#32 ∧ w.getLsbD 4 = par) ∧
    ((∃ i, decode w = .command i) ↔
      w = 0x00000001#32 ∨ w = 0x00000002#32 ∨ w = 0x00000012#32 ∨ w = 0x00000003#32 ∨ w = 0x00000013#32)

/-- R69: the decoder, in the arithmetic of the word's number. -/
def Obligations.DecoderFollowsItsPseudocode : Prop :=
  ∀ w : Word,
    decode w =
      if w.toNat / 32 ≠ 0 then .rejected .reservedBits
      else if w.toNat % 16 = 1 then
        if w.toNat / 16 % 2 = 1 then .rejected .loadkeyPar else .command .loadkey
      else if w.toNat % 16 = 2 then .command (.encrypt (w.toNat / 16 % 2 = 1))
      else if w.toNat % 16 = 3 then .command (.decrypt (w.toNat / 16 % 2 = 1))
      else .rejected .reservedOp

/-- The words of R68 and R70, written out (sanity). -/
def Obligations.WrittenWordsDecode : Prop :=
  decode 0x00000001#32 = .command .loadkey ∧ decode 0x00000002#32 = .command (.encrypt false) ∧
  decode 0x00000012#32 = .command (.encrypt true) ∧ decode 0x00000003#32 = .command (.decrypt false) ∧
  decode 0x00000013#32 = .command (.decrypt true) ∧ decode 0x00000011#32 = .rejected .loadkeyPar ∧
  decode 0x00000004#32 = .rejected .reservedOp ∧ decode 0x80000002#32 = .rejected .reservedBits

/-! ## The datapath -/

/-- R107: DEC_BYTE inverts ENC_BYTE, which is a bijection on bytes for each crypto offset. -/
def Obligations.DecByteInvertsEncByte : Prop :=
  ∀ co : Byte, (∀ b : Byte, decByte (encByte b co) co = b) ∧ Function.Bijective fun b => encByte b co

/-- R101, R102 and R103 in the arithmetic of naturals, with R102's reduction to three bits of each summand. -/
def Obligations.CryptoOffsetFormula : Prop :=
  ∀ (key : Vector Byte 16) (off : Vector Byte 8) (i : Nat),
    keyByteAt key i = fileByte key (i % 16) ∧
    offsetIndex key i = ((fileByte key 15).toNat + i + i / 9) % 8 ∧
    offsetIndex key i = ((fileByte key 15).toNat % 8 + i % 8 + i / 9 % 8) % 8 ∧
    (cryptoOffset key off i).toNat =
      ((offByte off (offsetIndex key i)).toNat + i % 256 + (keyByteAt key i).toNat) % 256

/-- R94: the repeated mod and div give the byte slices KHASH[8k+7 : 8k], the least significant first. -/
def Obligations.HashBytesAreSlices : Prop :=
  ∀ (h : BitVec 64) (k : Nat), k < 8 →
    hashByte h k = h.extractLsb' (8 * k) 8 ∧ (hashByte h k).toNat = h.toNat / 256 ^ k % 256

/-- R97: EXTRACT after EMBED recovers every offset, for every key hash. -/
def Obligations.ExtractUndoesEmbed : Prop :=
  ∀ (cfg : Config) (s : State) (m : Nat), ((s.embed m).extract cfg m).off = s.off

/-- R90: RESTORE after NORMALIZE gives the length back, and the original bytes are untouched. -/
def Obligations.RestoreUndoesNormalize : Prop :=
  ∀ (cfg : Config) (s : State) (n : Nat),
    restoredLength (max 16 n + 1) ((s.normalize cfg n).bufByte cfg (max 16 n)) = n ∧
    markerInconsistent (max 16 n + 1) ((s.normalize cfg n).bufByte cfg (max 16 n)) = false ∧
    ∀ j, j < n → (s.normalize cfg n).bufByte cfg j = s.bufByte cfg j

/-- R110: UNMIX, and that it restores what MIX with the same KEY and OFF mixed, in either mode of either pass. -/
def Obligations.UnmixUndoesMix : Prop :=
  ∀ (cfg : Config) (s : State) (par par' : Bool) (m j : Nat),
    (j < m → (s.unmix cfg par m).bufByte cfg j = decByte (s.bufByte cfg j) (cryptoOffset s.key s.off j)) ∧
    ((s.mix cfg par m).unmix cfg par' m).bufByte cfg j = s.bufByte cfg j

/-- R114: whatever the lane count, the partition and the interleaving (every `cfg`), a pass leaves what the ascending
one leaves; on a buffer of canonical form the two states are equal. -/
def Obligations.PassesIgnoreLanes : Prop :=
  ∀ (cfg : Config) (s : State) (m : Nat),
    (∀ j, (s.mix cfg true m).bufByte cfg j = (s.mix cfg false m).bufByte cfg j ∧
      (s.unmix cfg true m).bufByte cfg j = (s.unmix cfg false m).bufByte cfg j) ∧
    (s.mem.wf → s.mix cfg true m = s.mix cfg false m ∧ s.unmix cfg true m = s.unmix cfg false m)

/-! ## The commands -/

/-- R75: the word 0x00000001 alone is LOADKEY; its whole effect, which completes in every state: nothing but KEY,
KHASH and STATUS changes. That it leaves OFF and the count of free values (log 5) and writes ERR and ERRCODE 0 in
every state, those R41 (c) rules out among them (log 13), is the model's and no rule of the spec. -/
def Obligations.LoadkeyEffect : Prop :=
  (∀ w : Word, decode w = .command .loadkey ↔ w = 0x00000001#32) ∧
  ∀ s : State,
    ∃ t, exec .loadkey s = .next t ∧
      t = { s with
            key := t.key, khash := Config.chip.keyHash64 t.key, keyValid := true
            busy := false, done := true, err := false, errcode := 0, pend := 0 } ∧
      ∀ k, k < 16 → fileByte t.key k = byteLane (fileWord s.keyin (k / 4)) (k % 4)

/-- R115's result (R83 to R86, R92, R95, R109): the bytes, the length, the draws and the flags of an ENCRYPT that
passes its checks. The draws are free values by their count, and that each is answered is R159's premise (log 2). -/
def Obligations.EncryptResult : Prop :=
  ∀ (par : Bool) (s : State), s.keyValid = true → max 16 s.len.toNat + 9 ≤ Config.chip.bufCap →
    ∃ t, exec (.encrypt par) s = .next t ∧
      t.len.toNat = max 16 s.len.toNat + 9 ∧
      (∀ j, j ≤ max 16 s.len.toNat →
        t.bufByte Config.chip j = encByte (s.normalizedByte j) (cryptoOffset s.key s.drawnOffsets j)) ∧
      (∀ k, k < 8 →
        t.bufByte Config.chip (max 16 s.len.toNat + 1 + k) = offByte s.drawnOffsets k + hashByte s.khash k) ∧
      (∀ j, max 16 s.len.toNat + 9 ≤ j → t.bufByte Config.chip j = s.bufByte Config.chip j) ∧
      t.draws = s.draws + (16 - s.len.toNat) + 8 ∧
      t.busy = false ∧ t.done = true ∧ t.err = false ∧ t.errcode = 0 ∧ t.pend = 0

/-- R116's result (R88, R96, R110): the bytes, the length and the flags of a DECRYPT that passes its checks. Of the
bytes BUF[LEN'..N) it says nothing (R118). -/
def Obligations.DecryptResult : Prop :=
  ∀ (par : Bool) (s : State), s.keyValid = true → 9 ≤ s.len.toNat → s.len.toNat ≤ Config.chip.bufCap →
    ((s.unmixedByte (s.len.toNat - 9)).toNat ≤ 16 →
      (s.unmixedByte (s.len.toNat - 9)).toNat ≤ s.len.toNat - 9) →
    ∃ t, exec (.decrypt par) s = .next t ∧
      t.len.toNat =
        (if (s.unmixedByte (s.len.toNat - 9)).toNat ≤ 16 then (s.unmixedByte (s.len.toNat - 9)).toNat
          else s.len.toNat - 9) ∧
      (∀ j, j < t.len.toNat → t.bufByte Config.chip j = s.unmixedByte j) ∧
      (∀ j, s.len.toNat ≤ j → t.bufByte Config.chip j = s.bufByte Config.chip j) ∧
      t.draws = s.draws ∧
      t.busy = false ∧ t.done = true ∧ t.err = false ∧ t.errcode = 0 ∧ t.pend = 0

/-- R115, R130 to R132, R136, R137: when an ENCRYPT raises which error, and that nothing but STATUS changes. The value
OFF takes in the failed state is the model's free one (log 5). -/
def Obligations.EncryptErrors : Prop :=
  ∀ (par : Bool) (s : State),
    (Config.chip.bufCap < s.len.toNat → exec (.encrypt par) s = .next (s.failed 2)) ∧
    (s.len.toNat ≤ Config.chip.bufCap → s.keyValid = false → exec (.encrypt par) s = .next (s.failed 3)) ∧
    (s.len.toNat ≤ Config.chip.bufCap → s.keyValid = true →
      Config.chip.bufCap < max 16 s.len.toNat + 9 → exec (.encrypt par) s = .next (s.failed 4))

/-- R116, R130, R131, R133, R134, R136, R137: when a DECRYPT raises which error, and that nothing but STATUS changes.
The value OFF takes in the failed state is the model's free one (log 5). -/
def Obligations.DecryptErrors : Prop :=
  ∀ (par : Bool) (s : State),
    (Config.chip.bufCap < s.len.toNat → exec (.decrypt par) s = .next (s.failed 2)) ∧
    (s.len.toNat ≤ Config.chip.bufCap → s.keyValid = false → exec (.decrypt par) s = .next (s.failed 3)) ∧
    (s.len.toNat ≤ Config.chip.bufCap → s.keyValid = true → s.len.toNat < 9 →
      exec (.decrypt par) s = .next (s.failed 5)) ∧
    (s.len.toNat ≤ Config.chip.bufCap → s.keyValid = true → 9 ≤ s.len.toNat →
      (s.unmixedByte (s.len.toNat - 9)).toNat ≤ 16 →
      s.len.toNat - 9 < (s.unmixedByte (s.len.toNat - 9)).toNat →
      exec (.decrypt par) s = .next (s.failed 6))

/-- R137: a command that ends with an error has changed nothing but STATUS and the internal OFF latch. The value OFF
takes in the failed state is the model's free one (log 5). -/
def Obligations.ErrorsArePrecise : Prop :=
  ∀ (i : Instr) (s t : State), exec i s = .next t → t.err = true →
    i ≠ .loadkey ∧ t = s.failed t.errcode

/-- The frame of ENCRYPT and DECRYPT, in either mode, with or without an error: the key, the staging bytes, the key
hash, KEY_VALID, OVR, the mark and the host's side stay, and so does every byte at or above max(N, LEN') (R44, R118). -/
def Obligations.TransformFrame : Prop :=
  ∀ (par : Bool) (s t : State), exec (.encrypt par) s = .next t ∨ exec (.decrypt par) s = .next t →
    t.key = s.key ∧ t.keyin = s.keyin ∧ t.khash = s.khash ∧ t.keyValid = s.keyValid ∧ t.ovr = s.ovr ∧
    t.mark = s.mark ∧ t.program = s.program ∧ t.readings = s.readings ∧ t.turns = s.turns ∧
    t.resets = s.resets ∧
    ∀ j, max s.len.toNat t.len.toNat ≤ j → t.bufByte Config.chip j = s.bufByte Config.chip j

/-- R120: the length growth. -/
def Obligations.EncryptLengthGrowth : Prop :=
  ∀ (par : Bool) (s t : State), exec (.encrypt par) s = .next t → t.err = false →
    t.len.toNat = if s.len.toNat ≤ 16 then 25 else s.len.toNat + 9

/-- R121: the draw count of every command, and that an error consumes none. -/
def Obligations.DrawCount : Prop :=
  ∀ (i : Instr) (s t : State), exec i s = .next t →
    t.draws = s.draws +
      match i with
      | .loadkey => 0
      | .decrypt _ => 0
      | .encrypt _ => if t.err = true then 0 else if s.len.toNat ≤ 16 then 8 + (16 - s.len.toNat) else 8

/-- R122: DECRYPT after ENCRYPT restores the length and the bytes, for every key, key hash, draw sequence and either
mode of either command. The premise on the state between says what "with no LOADKEY between" leaves: the key, its
hash, KEY_VALID, LEN and BUF[0..LEN') are as the ENCRYPT left them; all else (the host's side, OFF, STATUS) may have
changed. -/
def Obligations.DecryptUndoesEncrypt : Prop :=
  ∀ (par par' : Bool) (s t u : State), s.keyValid = true → max 16 s.len.toNat + 9 ≤ Config.chip.bufCap →
    exec (.encrypt par) s = .next t →
    u.key = t.key → u.khash = t.khash → u.keyValid = t.keyValid → u.len = t.len →
    (∀ j, j < t.len.toNat → u.bufByte Config.chip j = t.bufByte Config.chip j) →
    ∃ v, exec (.decrypt par') u = .next v ∧ v.err = false ∧ v.errcode = 0 ∧ v.len = s.len ∧
      ∀ j, j < s.len.toNat → v.bufByte Config.chip j = s.bufByte Config.chip j

/-- R65, R114: PAR never changes a result: on a buffer of canonical form the two modes answer the same state. That the
same state includes OFF after the command (logs 5 and 24) and BUF[LEN'..N) after a DECRYPT (logs 6 and 24), which R35 and
R118 leave unspecified, is the model's choice and no rule of the spec: both modes take the free values of one index. -/
def Obligations.ParNeverChangesResult : Prop :=
  ∀ s : State, s.mem.wf →
    exec (.encrypt true) s = exec (.encrypt false) s ∧ exec (.decrypt true) s = exec (.decrypt false) s

/-- R123: the result of ENCRYPT is a function of KEY, the key hash, N, BUF[0..N) and the draw sequence, that of DECRYPT
of KEY, the key hash, N and BUF[0..N): two machines (of any lanes and capacities) that agree on these and both raise no
error agree on LEN' and BUF[0..LEN'), whatever the modes and the earlier commands. -/
def Obligations.ResultsAreDetermined : Prop :=
  ∀ (cfg cfg' : Config) (par par' : Bool) (s s' : State),
    s.key = s'.key → s.khash = s'.khash → s.len = s'.len →
    (∀ j, j < s.len.toNat → s.bufByte cfg j = s'.bufByte cfg' j) →
    ((∀ k, cfg.draw (s.draws + k) = cfg'.draw (s'.draws + k)) →
      (s.encrypt cfg par).err = false → (s'.encrypt cfg' par').err = false →
      (s.encrypt cfg par).len = (s'.encrypt cfg' par').len ∧
      ∀ j, j < (s.encrypt cfg par).len.toNat →
        (s.encrypt cfg par).bufByte cfg j = (s'.encrypt cfg' par').bufByte cfg' j) ∧
    ((s.decrypt cfg par).err = false → (s'.decrypt cfg' par').err = false →
      (s.decrypt cfg par).len = (s'.decrypt cfg' par').len ∧
      ∀ j, j < (s.decrypt cfg par).len.toNat →
        (s.decrypt cfg par).bufByte cfg j = (s'.decrypt cfg' par').bufByte cfg' j)

/-- R35: no command reads OFF before it writes it: what OFF held before a command changes nothing after it, but for
OFF itself after a LOADKEY. That OFF after ENCRYPT, DECRYPT or an error does not depend on the old OFF, where R35 and R137
allow any value, and that LOADKEY keeps OFF, is the model's choice and no rule of the spec (logs 5 and 24). -/
def Obligations.OldOffsetsAreNeverRead : Prop :=
  ∀ (s : State) (o : Vector Byte 8) (par : Bool),
    exec (.encrypt par) { s with off := o } = exec (.encrypt par) s ∧
    exec (.decrypt par) { s with off := o } = exec (.decrypt par) s ∧
    ∃ t, exec .loadkey s = .next t ∧ exec .loadkey { s with off := o } = .next { t with off := o }

/-- R23, R25, R26, R40: every command completes, with BUSY 0, DONE 1, PEND 0, and ERR 1 exactly when ERRCODE ≠ 0; the
codes 7 to 15 never appear. That every ENCRYPT completes rests on the premise of R159 that the random source answers
every draw (log 2); R39 holds the engine while it does not. -/
def Obligations.EveryCommandCompletes : Prop :=
  ∀ (i : Instr) (s : State), ∃ t, exec i s = .next t ∧
    t.busy = false ∧ t.done = true ∧ t.pend = 0 ∧ (t.err = true ↔ t.errcode ≠ 0) ∧ t.errcode.toNat ≤ 6

/-- R41 (f): after a successful ENCRYPT or DECRYPT the length fits the buffer. -/
def Obligations.SuccessfulLengthFits : Prop :=
  ∀ (par : Bool) (s t : State), exec (.encrypt par) s = .next t ∨ exec (.decrypt par) s = .next t →
    t.err = false → t.len.toNat ≤ Config.chip.bufCap

/-! ## The step -/

/-- R6, R40: when PEND decodes to a well-formed command, a step in which the engine moves is exec of that command, in
the state whose schedule has lost that turn; with nothing scheduled, the engine moves. The schedule is the model's
choice (log 7). -/
def Obligations.StepRunsTheDecodedCommand : Prop :=
  ∀ (s : State) (i : Instr), s.busy = true → decode s.pend = .command i → i.wellFormed = true →
    (s.turns = [] → step s = exec i s) ∧
    ∀ ts, s.turns = .engine :: ts → step s = exec i { s with turns := ts }

/-- R70, R129: an illegal word completes with ILLEGAL_CMD and nothing but STATUS changes. The schedule and the free
value OFF takes are the model's choice (logs 7 and 5). -/
def Obligations.IllegalWordCompletes : Prop :=
  ∀ (s : State) (r : Reject), s.busy = true → decode s.pend = .rejected r →
    (s.turns = [] → step s = .next (s.failed 1)) ∧
    ∀ ts, s.turns = .engine :: ts → step s = .next (({ s with turns := ts } : State).failed 1)

/-- R40: the engine is enabled exactly when BUSY = 1; an engine's turn while BUSY = 0 only uses up the turn. The
schedule is the model's choice (log 7). -/
def Obligations.IdleEngineDoesNothing : Prop :=
  ∀ (s : State) (ts : List Turn), s.busy = false → s.turns = .engine :: ts → step s = .next { s with turns := ts }

/-- Every step answers a next state (R69, R149): the machine never faults and never refuses. That a violation marks
the run and does not stop it is log 8. That an ENCRYPT's step does rests on R159's premise (log 2). -/
def Obligations.EveryStepAnswersNext : Prop :=
  ∀ s : State, ∃ t, step s = .next t

/-- The host's turn performs the host's next access (R56, R74); POLL reads STATUS and stays until bit 0 is 0 (R73).
Schedule, program and readings are the model's choice (logs 7, 12, 17, 21). -/
def Obligations.HostTurnRunsItsStatement : Prop :=
  ∀ (s : State) (ts : List Turn) (rest : List HostOp), s.turns = .host :: ts →
    (∀ a, s.program = .access a :: rest →
      step s = .next (({ s with turns := ts, program := rest } : State).hostAccess Config.chip a)) ∧
    (s.program = .poll :: rest →
      step s = .next
        { s with
          turns := ts, program := if s.busy then s.program else rest
          readings := s.readings ++ [{ kind := .read32, offset := 0x004, value := s.statusWord.toNat }] })

/-- R151: a reset that arrives at any time abandons the command, sets every register to its reset value, and leaves
the mark (R157) and the host's side. The schedule (log 7) and what stays on the host's side (log 15) are the model's
choice. -/
def Obligations.ResetTurnResets : Prop :=
  ∀ (s : State) (ts : List Turn), s.turns = .reset :: ts →
    ∃ t, step s = .next t ∧
      t.busy = false ∧ t.done = false ∧ t.err = false ∧ t.errcode = 0 ∧ t.keyValid = false ∧ t.ovr = false ∧
      t.pend = 0 ∧ t.len = 0 ∧ t.keyin = Vector.replicate 16 0 ∧ t.key = Vector.replicate 16 0 ∧ t.mem = [] ∧
      t.mark = s.mark ∧ t.program = s.program ∧ t.readings = s.readings ∧ t.turns = ts ∧
      t.draws = s.draws ∧ t.resets = s.resets + 1

/-- R150: the reset values the spec gives, as registers and as the host reads them. -/
def Obligations.ResetValues : Prop :=
  State.reset.busy = false ∧ State.reset.done = false ∧ State.reset.err = false ∧ State.reset.errcode = 0 ∧
  State.reset.keyValid = false ∧ State.reset.ovr = false ∧ State.reset.pend = 0 ∧ State.reset.len = 0 ∧
  State.reset.mark = none ∧ (∀ k, fileByte State.reset.keyin k = 0 ∧ fileByte State.reset.key k = 0) ∧
  State.reset.reads (.read32 0x000) 0 ∧ State.reset.reads (.read32 0x004) 0 ∧
  State.reset.reads (.read32 0x00C) (BitVec.ofNat 32 Config.chip.bufCap)

/-- R41 (a) to (e) and the buffer's form hold at reset. The buffer's form is the model's (log 3). -/
def Obligations.ResetMeetsInvariant : Prop := State.reset.Inv Config.chip

/-- R41 (a) to (e), R26 and the buffer's form: every step keeps them, from every state that has them. The buffer's
form is the model's (log 3). -/
def Obligations.StepKeepsInvariant : Prop :=
  ∀ s t : State, s.Inv Config.chip → step s = .next t → t.Inv Config.chip

/-- R33: only a successful LOADKEY writes KEY, all 16 bytes in one step, from the staging bytes; else only a reset
does. -/
def Obligations.OnlyLoadkeyWritesKey : Prop :=
  ∀ s t : State, step s = .next t → t.key ≠ s.key →
    (s.busy = true ∧ decode s.pend = .command .loadkey ∧ t.key = s.keyin ∧ t.err = false ∧ t.keyValid = true) ∨
    (t.resets = s.resets + 1 ∧ t.key = Vector.replicate 16 0 ∧ t.keyValid = false)

/-- R27: KEY_VALID is set by a LOADKEY only and cleared by a reset only. -/
def Obligations.KeyValidLifetime : Prop :=
  ∀ s t : State, step s = .next t →
    (s.keyValid = false → t.keyValid = true → s.busy = true ∧ decode s.pend = .command .loadkey) ∧
    (s.keyValid = true → t.keyValid = false → t.resets = s.resets + 1)

/-- R28's last part: OVR stays 1 until an accepted CMD write clears it; else only a reset does. -/
def Obligations.OverrunStaysUntilAccept : Prop :=
  ∀ s t : State, step s = .next t → s.ovr = true → t.ovr = false →
    (s.busy = false ∧ t.busy = true) ∨ t.resets = s.resets + 1

/-- R157: the mark is never cleared, nor changed, by any step. That the first violation stays recorded is the model's
choice (log 8). -/
def Obligations.MarkIsSticky : Prop :=
  ∀ (s t : State) (v : Violation), s.mark = some v → step s = .next t → t.mark = some v

/-- R121, whole machine: a step consumes a draw only when the engine performs an ENCRYPT that succeeds. -/
def Obligations.OnlyEncryptDraws : Prop :=
  ∀ s t : State, step s = .next t → t.draws ≠ s.draws →
    s.busy = true ∧ (∃ par, decode s.pend = .command (.encrypt par)) ∧ t.err = false ∧ s.draws + 8 ≤ t.draws

/-! ## The host's port -/

/-- R21: a CMD write while BUSY = 0 accepts the word; a read of CMD returns 0. -/
def Obligations.CmdWriteAccepts : Prop :=
  ∀ (s : State) (w : Word), s.busy = false →
    s.hostAccess Config.chip (.write32 0x000 w) =
      { s with pend := w, busy := true, done := false, err := false, errcode := 0, ovr := false } ∧
    s.reads (.read32 0x000) 0

/-- R28, R153 (c), R157: a CMD write while BUSY = 1 is dropped, sets OVR and is a host protocol violation. That the
first violation stays recorded, and the count of free values, are the model's choice (logs 8 and 9). -/
def Obligations.CmdWriteWhileBusyOverruns : Prop :=
  ∀ (s : State) (w : Word), s.busy = true →
    s.hostAccess Config.chip (.write32 0x000 w) =
      { s with
        ovr := true, frees := s.frees + 1
        mark := if s.mark = none then some { kind := .write32, offset := 0x000 } else s.mark }

/-- R22: STATUS, bit by bit, as a read at any time returns it; every other bit reads 0. -/
def Obligations.StatusFields : Prop :=
  ∀ s : State, s.reads (.read32 0x004) s.statusWord ∧
    s.statusWord.getLsbD 0 = s.busy ∧ s.statusWord.getLsbD 1 = s.done ∧ s.statusWord.getLsbD 2 = s.err ∧
    s.statusWord.getLsbD 3 = s.keyValid ∧ s.statusWord.getLsbD 4 = s.ovr ∧
    (∀ k, k < 4 → s.statusWord.getLsbD (8 + k) = s.errcode.getLsbD k) ∧
    ∀ k, (5 ≤ k ∧ k < 8) ∨ 12 ≤ k → s.statusWord.getLsbD k = false

/-- R29 and R30: LEN reads back what was written, CAP reads BUF_CAP. -/
def Obligations.LenAndCapRegisters : Prop :=
  ∀ (s : State) (v : Word),
    (s.busy = false → s.hostAccess Config.chip (.write32 0x008 v) = { s with len := v } ∧
      s.reads (.read32 0x008) s.len) ∧
    ∃ c : Word, s.reads (.read32 0x00C) c ∧ c.toNat = Config.chip.bufCap

/-- R31: a write to KEYINw changes staging bytes 4w to 4w + 3 only, byte 4w + b being lane b; a read returns the same
lanes; both at any time, but that a write while a LOADKEY is in flight is a violation. That a write is permitted with
an illegal word in flight is the model's choice (log 10). -/
def Obligations.KeyinRegisters : Prop :=
  ∀ (s : State) (w : Nat) (v : Word), w < 4 →
    ((s.busy = true → decode s.pend ≠ .command .loadkey) →
      ∃ k, s.hostAccess Config.chip (.write32 (0x010 + 4 * w) v) = { s with keyin := k } ∧
        (∀ b, b < 4 → fileByte k (4 * w + b) = byteLane v b) ∧
        ∀ j, j < 16 → j / 4 ≠ w → fileByte k j = fileByte s.keyin j) ∧
    (∃ x, s.reads (.read32 (0x010 + 4 * w)) x ∧ ∀ b, b < 4 → byteLane x b = fileByte s.keyin (4 * w + b)) ∧
    (s.busy = true → decode s.pend = .command .loadkey →
      s.permits Config.chip (.write32 (0x010 + 4 * w) v) = false)

/-- R32, R76: a read of KEYw at any time returns KEY[4w + b] in lane b, and 0 while KEY_VALID = 0 in every state that
meets the invariant of R41 (e). -/
def Obligations.KeyView : Prop :=
  ∀ (s : State) (w : Nat), w < 4 →
    ∃ x, s.reads (.read32 (0x020 + 4 * w)) x ∧ (∀ b, b < 4 → byteLane x b = fileByte s.key (4 * w + b)) ∧
      (s.noKeyIsZero → s.keyValid = false → x = 0)

/-- R47, R50: the BUF window is little-endian: a 32-bit read gives four bytes, the lowest position in the lowest lane. -/
def Obligations.BufferReads : Prop :=
  ∀ (s : State) (j : Nat), s.busy = false →
    (j < Config.chip.bufCap → s.reads (.read8 (0x1000 + j)) ((s.bufByte Config.chip j).setWidth 32)) ∧
    (j % 4 = 0 → j + 3 < Config.chip.bufCap →
      ∃ x, s.reads (.read32 (0x1000 + j)) x ∧
        x.toNat = (s.bufByte Config.chip j).toNat + 256 * (s.bufByte Config.chip (j + 1)).toNat
          + 65536 * (s.bufByte Config.chip (j + 2)).toNat + 16777216 * (s.bufByte Config.chip (j + 3)).toNat)

/-- R47, R50, R53: a write to the BUF window changes the addressed bytes and nothing else. -/
def Obligations.BufferWrites : Prop :=
  ∀ (s : State) (j : Nat) (b : Byte) (v : Word), s.busy = false →
    (j < Config.chip.bufCap →
      ∃ m, s.hostAccess Config.chip (.write8 (0x1000 + j) b) = { s with mem := m } ∧
        ∀ i, ({ s with mem := m } : State).bufByte Config.chip i = if i = j then b else s.bufByte Config.chip i) ∧
    (j % 4 = 0 → j + 3 < Config.chip.bufCap →
      ∃ m, s.hostAccess Config.chip (.write32 (0x1000 + j) v) = { s with mem := m } ∧
        ∀ i, ({ s with mem := m } : State).bufByte Config.chip i =
          if j ≤ i ∧ i ≤ j + 3 then byteLane v (i - j) else s.bufByte Config.chip i)

/-- R45, R50, R156: the reserved space, below and above BUF, reads 0 and ignores writes, at any time. That offsets
have no upper bound is the model's choice (log 18). -/
def Obligations.ReservedSpaceIsRazWi : Prop :=
  ∀ (s : State) (a : Nat) (b : Byte) (v : Word),
    (0x030 ≤ a ∧ a < 0x1000) ∨ 0x1000 + Config.chip.bufCap ≤ a →
    s.reads (.read8 a) 0 ∧ s.hostAccess Config.chip (.write8 a b) = s ∧
    (a % 4 = 0 → s.reads (.read32 a) 0 ∧ s.hostAccess Config.chip (.write32 a v) = s)

/-- R22, R30, R32: writes to STATUS, CAP and KEY0 to KEY3 while BUSY = 0 are ignored. While BUSY = 1 such a write is a
violation by the model's choice (log 10). -/
def Obligations.ReadOnlyRegistersIgnoreWrites : Prop :=
  ∀ (s : State) (v : Word) (a : Nat), s.busy = false →
    a = 0x004 ∨ a = 0x00C ∨ a = 0x020 ∨ a = 0x024 ∨ a = 0x028 ∨ a = 0x02C →
    s.hostAccess Config.chip (.write32 a v) = s

/-- R53: no permitted read has a side effect, and reading again returns the same value. -/
def Obligations.ReadsHaveNoSideEffect : Prop :=
  ∀ (s : State) (a : HostAccess), a.kind.isRead = true → s.permits Config.chip a = true →
    ∃ v, s.reads a v ∧ (s.hostAccess Config.chip a).reads a v

/-- R153: the four items of host protocol violations, (d) with every width but 8, 16 and 32 bits too (D30, log 27).
That every 8-bit access below 0x030 is one is DEDUCED (log 11). -/
def Obligations.ProtocolViolations : Prop :=
  ∀ (s : State) (a : HostAccess),
    (s.busy = true →
      a.offset = 0x008 ∨ (0x1000 ≤ a.offset ∧ a.offset < 0x1000 + Config.chip.bufCap) →
      s.permits Config.chip a = false) ∧
    (s.busy = true → decode s.pend = .command .loadkey → a.kind.isRead = false →
      0x010 ≤ a.offset → a.offset < 0x020 → s.permits Config.chip a = false) ∧
    (s.busy = true → a.kind.isRead = false → a.offset = 0x000 → s.permits Config.chip a = false) ∧
    ((a.kind = .read16 ∨ a.kind = .write16 ∨ (∃ w, a.kind = .readOther w ∨ a.kind = .writeOther w) ∨
        ((a.kind = .read8 ∨ a.kind = .write8) ∧ a.offset < 0x030) ∨
        ((a.kind = .read32 ∨ a.kind = .write32) ∧
          (a.offset % 4 ≠ 0 ∨
            (0x1000 ≤ a.offset ∧ a.offset < 0x1000 + Config.chip.bufCap ∧
              0x1000 + Config.chip.bufCap ≤ a.offset + 3)))) →
      s.permits Config.chip a = false)

/-- R50: every access the rule permits is permitted while BUSY = 0. -/
def Obligations.PermittedWhileIdle : Prop :=
  ∀ (s : State) (a : HostAccess), s.busy = false →
    ((a.kind = .read8 ∨ a.kind = .write8) ∧ 0x030 ≤ a.offset) ∨
      ((a.kind = .read32 ∨ a.kind = .write32) ∧ a.offset % 4 = 0 ∧
        (a.offset < 0x1000 ∨ 0x1000 + Config.chip.bufCap ≤ a.offset ∨
          a.offset + 3 < 0x1000 + Config.chip.bufCap)) →
    s.permits Config.chip a = true

/-- R157: a violating access sets the mark with its kind and offset unless one is set, and has no effect on the block
but OVR for a CMD write while BUSY. That the first violation stays recorded, and the free value a read returns, are
the model's choice (logs 8 and 9). That a CMD write of another width while BUSY sets no OVR is the model's choice (log
26). -/
def Obligations.ViolationOnlyMarks : Prop :=
  ∀ (s : State) (a : HostAccess), s.permits Config.chip a = false →
    ∃ r, s.hostAccess Config.chip a =
        { s with
          mark := if s.mark = none then some { kind := a.kind, offset := a.offset } else s.mark
          ovr := if s.busy = true ∧ a.kind = .write32 ∧ a.offset = 0x000 then true else s.ovr
          readings := s.readings ++ r, frees := s.frees + 1 } ∧
      (a.kind.isRead = false → r = []) ∧
      (a.kind.isRead = true → ∃ v, v < 2 ^ a.kind.bits ∧ r = [{ kind := a.kind, offset := a.offset, value := v }])

/-- R6, R61, R80: while a command is in flight no host access, permitted or not, changes what the engine will read:
the state at issue. That an access which is not permitted changes none of it, where R153 leaves the effect on the
block unspecified, is the choice R157 makes for the model (log 8). -/
def Obligations.EngineInputIsStateAtIssue : Prop :=
  ∀ (s : State) (a : HostAccess), s.busy = true →
    (s.hostAccess Config.chip a).busy = true ∧ (s.hostAccess Config.chip a).pend = s.pend ∧
    (s.hostAccess Config.chip a).len = s.len ∧ (s.hostAccess Config.chip a).mem = s.mem ∧
    (s.hostAccess Config.chip a).key = s.key ∧ (s.hostAccess Config.chip a).khash = s.khash ∧
    (s.hostAccess Config.chip a).keyValid = s.keyValid ∧ (s.hostAccess Config.chip a).draws = s.draws ∧
    (decode s.pend = .command .loadkey → (s.hostAccess Config.chip a).keyin = s.keyin)

/-- R77: the four KEYIN writes of SETKEY stage the 16 bytes, and LOADKEY installs them: KEY[k] = k_k. -/
def Obligations.SetkeyInstallsItsBytes : Prop :=
  ∀ (s : State) (k : Vector Byte 16), s.busy = false →
    let staged := [fileWord k 0, fileWord k 1, fileWord k 2, fileWord k 3].zipIdx.foldl
      (fun t p => t.hostAccess Config.chip (.write32 (0x010 + 4 * p.2) p.1)) s
    staged = { s with keyin := k } ∧
    ∃ t, exec .loadkey (staged.hostAccess Config.chip (.write32 0x000 0x00000001#32)) = .next t ∧
      t.key = k ∧ t.keyValid = true
end

