-- ==== Sys2Proof/Laws/Config.lean ====
section
/-! SUPPORT. R9's bounds on the parameters. -/

namespace Sys2Proof

theorem Config.bufCap_ge (cfg : Config) : 25 ≤ cfg.bufCap := Nat.le_add_right _ _

theorem Config.bufCap_le (cfg : Config) : cfg.bufCap ≤ 2 ^ 32 - 4096 := by
  have := cfg.capExtra.isLt
  simp only [Config.bufCap]
  omega

theorem Config.bufCap_toNat (cfg : Config) : (BitVec.ofNat 32 cfg.bufCap).toNat = cfg.bufCap := by
  have := cfg.bufCap_le
  simp only [BitVec.toNat_ofNat]
  omega

end Sys2Proof
end

