-- ==== Sys2Proof/Laws/State.lean ====
section
/-! SUPPORT. One lemma per field per named update of the state, true by rfl, so that no later proof unfolds a record
update. The contents a stage writes (mem, off) have their lemmas in Laws/Stages.lean. -/

namespace Sys2Proof.Machine

variable (cfg : Config) (s : State)

/-! `setBufByte` (00_scope.md R15). -/

@[simp] theorem State.setBufByte_busy (j : Nat) (v : Byte) : (s.setBufByte j v).busy = s.busy := rfl
@[simp] theorem State.setBufByte_done (j : Nat) (v : Byte) : (s.setBufByte j v).done = s.done := rfl
@[simp] theorem State.setBufByte_err (j : Nat) (v : Byte) : (s.setBufByte j v).err = s.err := rfl
@[simp] theorem State.setBufByte_keyValid (j : Nat) (v : Byte) : (s.setBufByte j v).keyValid = s.keyValid := rfl
@[simp] theorem State.setBufByte_ovr (j : Nat) (v : Byte) : (s.setBufByte j v).ovr = s.ovr := rfl
@[simp] theorem State.setBufByte_errcode (j : Nat) (v : Byte) : (s.setBufByte j v).errcode = s.errcode := rfl
@[simp] theorem State.setBufByte_pend (j : Nat) (v : Byte) : (s.setBufByte j v).pend = s.pend := rfl
@[simp] theorem State.setBufByte_len (j : Nat) (v : Byte) : (s.setBufByte j v).len = s.len := rfl
@[simp] theorem State.setBufByte_keyin (j : Nat) (v : Byte) : (s.setBufByte j v).keyin = s.keyin := rfl
@[simp] theorem State.setBufByte_key (j : Nat) (v : Byte) : (s.setBufByte j v).key = s.key := rfl
@[simp] theorem State.setBufByte_khash (j : Nat) (v : Byte) : (s.setBufByte j v).khash = s.khash := rfl
@[simp] theorem State.setBufByte_off (j : Nat) (v : Byte) : (s.setBufByte j v).off = s.off := rfl
@[simp] theorem State.setBufByte_mem (j : Nat) (v : Byte) : (s.setBufByte j v).mem = s.mem.put j v := rfl
@[simp] theorem State.setBufByte_mark (j : Nat) (v : Byte) : (s.setBufByte j v).mark = s.mark := rfl
@[simp] theorem State.setBufByte_program (j : Nat) (v : Byte) : (s.setBufByte j v).program = s.program := rfl
@[simp] theorem State.setBufByte_readings (j : Nat) (v : Byte) : (s.setBufByte j v).readings = s.readings := rfl
@[simp] theorem State.setBufByte_turns (j : Nat) (v : Byte) : (s.setBufByte j v).turns = s.turns := rfl
@[simp] theorem State.setBufByte_draws (j : Nat) (v : Byte) : (s.setBufByte j v).draws = s.draws := rfl
@[simp] theorem State.setBufByte_frees (j : Nat) (v : Byte) : (s.setBufByte j v).frees = s.frees := rfl
@[simp] theorem State.setBufByte_resets (j : Nat) (v : Byte) : (s.setBufByte j v).resets = s.resets := rfl

/-! `setBufWord` (20_memory.md R47). -/

@[simp] theorem State.setBufWord_busy (j : Nat) (v : Word) : (s.setBufWord j v).busy = s.busy := rfl
@[simp] theorem State.setBufWord_done (j : Nat) (v : Word) : (s.setBufWord j v).done = s.done := rfl
@[simp] theorem State.setBufWord_err (j : Nat) (v : Word) : (s.setBufWord j v).err = s.err := rfl
@[simp] theorem State.setBufWord_keyValid (j : Nat) (v : Word) : (s.setBufWord j v).keyValid = s.keyValid := rfl
@[simp] theorem State.setBufWord_ovr (j : Nat) (v : Word) : (s.setBufWord j v).ovr = s.ovr := rfl
@[simp] theorem State.setBufWord_errcode (j : Nat) (v : Word) : (s.setBufWord j v).errcode = s.errcode := rfl
@[simp] theorem State.setBufWord_pend (j : Nat) (v : Word) : (s.setBufWord j v).pend = s.pend := rfl
@[simp] theorem State.setBufWord_len (j : Nat) (v : Word) : (s.setBufWord j v).len = s.len := rfl
@[simp] theorem State.setBufWord_keyin (j : Nat) (v : Word) : (s.setBufWord j v).keyin = s.keyin := rfl
@[simp] theorem State.setBufWord_key (j : Nat) (v : Word) : (s.setBufWord j v).key = s.key := rfl
@[simp] theorem State.setBufWord_khash (j : Nat) (v : Word) : (s.setBufWord j v).khash = s.khash := rfl
@[simp] theorem State.setBufWord_off (j : Nat) (v : Word) : (s.setBufWord j v).off = s.off := rfl
@[simp] theorem State.setBufWord_mem (j : Nat) (v : Word) : (s.setBufWord j v).mem = s.mem.fill j 4 fun k => byteLane v k := rfl
@[simp] theorem State.setBufWord_mark (j : Nat) (v : Word) : (s.setBufWord j v).mark = s.mark := rfl
@[simp] theorem State.setBufWord_program (j : Nat) (v : Word) : (s.setBufWord j v).program = s.program := rfl
@[simp] theorem State.setBufWord_readings (j : Nat) (v : Word) : (s.setBufWord j v).readings = s.readings := rfl
@[simp] theorem State.setBufWord_turns (j : Nat) (v : Word) : (s.setBufWord j v).turns = s.turns := rfl
@[simp] theorem State.setBufWord_draws (j : Nat) (v : Word) : (s.setBufWord j v).draws = s.draws := rfl
@[simp] theorem State.setBufWord_frees (j : Nat) (v : Word) : (s.setBufWord j v).frees = s.frees := rfl
@[simp] theorem State.setBufWord_resets (j : Nat) (v : Word) : (s.setBufWord j v).resets = s.resets := rfl

/-! `accept` (10_state.md R21). -/

@[simp] theorem State.accept_busy (w : Word) : (s.accept w).busy = true := rfl
@[simp] theorem State.accept_done (w : Word) : (s.accept w).done = false := rfl
@[simp] theorem State.accept_err (w : Word) : (s.accept w).err = false := rfl
@[simp] theorem State.accept_keyValid (w : Word) : (s.accept w).keyValid = s.keyValid := rfl
@[simp] theorem State.accept_ovr (w : Word) : (s.accept w).ovr = false := rfl
@[simp] theorem State.accept_errcode (w : Word) : (s.accept w).errcode = 0 := rfl
@[simp] theorem State.accept_pend (w : Word) : (s.accept w).pend = w := rfl
@[simp] theorem State.accept_len (w : Word) : (s.accept w).len = s.len := rfl
@[simp] theorem State.accept_keyin (w : Word) : (s.accept w).keyin = s.keyin := rfl
@[simp] theorem State.accept_key (w : Word) : (s.accept w).key = s.key := rfl
@[simp] theorem State.accept_khash (w : Word) : (s.accept w).khash = s.khash := rfl
@[simp] theorem State.accept_off (w : Word) : (s.accept w).off = s.off := rfl
@[simp] theorem State.accept_mem (w : Word) : (s.accept w).mem = s.mem := rfl
@[simp] theorem State.accept_mark (w : Word) : (s.accept w).mark = s.mark := rfl
@[simp] theorem State.accept_program (w : Word) : (s.accept w).program = s.program := rfl
@[simp] theorem State.accept_readings (w : Word) : (s.accept w).readings = s.readings := rfl
@[simp] theorem State.accept_turns (w : Word) : (s.accept w).turns = s.turns := rfl
@[simp] theorem State.accept_draws (w : Word) : (s.accept w).draws = s.draws := rfl
@[simp] theorem State.accept_frees (w : Word) : (s.accept w).frees = s.frees := rfl
@[simp] theorem State.accept_resets (w : Word) : (s.accept w).resets = s.resets := rfl

/-! `overrun` (10_state.md R28). -/

@[simp] theorem State.overrun_busy : (s.overrun).busy = s.busy := rfl
@[simp] theorem State.overrun_done : (s.overrun).done = s.done := rfl
@[simp] theorem State.overrun_err : (s.overrun).err = s.err := rfl
@[simp] theorem State.overrun_keyValid : (s.overrun).keyValid = s.keyValid := rfl
@[simp] theorem State.overrun_ovr : (s.overrun).ovr = true := rfl
@[simp] theorem State.overrun_errcode : (s.overrun).errcode = s.errcode := rfl
@[simp] theorem State.overrun_pend : (s.overrun).pend = s.pend := rfl
@[simp] theorem State.overrun_len : (s.overrun).len = s.len := rfl
@[simp] theorem State.overrun_keyin : (s.overrun).keyin = s.keyin := rfl
@[simp] theorem State.overrun_key : (s.overrun).key = s.key := rfl
@[simp] theorem State.overrun_khash : (s.overrun).khash = s.khash := rfl
@[simp] theorem State.overrun_off : (s.overrun).off = s.off := rfl
@[simp] theorem State.overrun_mem : (s.overrun).mem = s.mem := rfl
@[simp] theorem State.overrun_mark : (s.overrun).mark = s.mark := rfl
@[simp] theorem State.overrun_program : (s.overrun).program = s.program := rfl
@[simp] theorem State.overrun_readings : (s.overrun).readings = s.readings := rfl
@[simp] theorem State.overrun_turns : (s.overrun).turns = s.turns := rfl
@[simp] theorem State.overrun_draws : (s.overrun).draws = s.draws := rfl
@[simp] theorem State.overrun_frees : (s.overrun).frees = s.frees := rfl
@[simp] theorem State.overrun_resets : (s.overrun).resets = s.resets := rfl

/-! `finish` (10_state.md R23, R25, R26). -/

@[simp] theorem State.finish_busy (c : ErrCode) : (s.finish c).busy = false := rfl
@[simp] theorem State.finish_done (c : ErrCode) : (s.finish c).done = true := rfl
@[simp] theorem State.finish_err (c : ErrCode) : (s.finish c).err = decide (c ≠ .none) := rfl
@[simp] theorem State.finish_keyValid (c : ErrCode) : (s.finish c).keyValid = s.keyValid := rfl
@[simp] theorem State.finish_ovr (c : ErrCode) : (s.finish c).ovr = s.ovr := rfl
@[simp] theorem State.finish_errcode (c : ErrCode) : (s.finish c).errcode = c.bits := rfl
@[simp] theorem State.finish_pend (c : ErrCode) : (s.finish c).pend = 0 := rfl
@[simp] theorem State.finish_len (c : ErrCode) : (s.finish c).len = s.len := rfl
@[simp] theorem State.finish_keyin (c : ErrCode) : (s.finish c).keyin = s.keyin := rfl
@[simp] theorem State.finish_key (c : ErrCode) : (s.finish c).key = s.key := rfl
@[simp] theorem State.finish_khash (c : ErrCode) : (s.finish c).khash = s.khash := rfl
@[simp] theorem State.finish_off (c : ErrCode) : (s.finish c).off = s.off := rfl
@[simp] theorem State.finish_mem (c : ErrCode) : (s.finish c).mem = s.mem := rfl
@[simp] theorem State.finish_mark (c : ErrCode) : (s.finish c).mark = s.mark := rfl
@[simp] theorem State.finish_program (c : ErrCode) : (s.finish c).program = s.program := rfl
@[simp] theorem State.finish_readings (c : ErrCode) : (s.finish c).readings = s.readings := rfl
@[simp] theorem State.finish_turns (c : ErrCode) : (s.finish c).turns = s.turns := rfl
@[simp] theorem State.finish_draws (c : ErrCode) : (s.finish c).draws = s.draws := rfl
@[simp] theorem State.finish_frees (c : ErrCode) : (s.finish c).frees = s.frees := rfl
@[simp] theorem State.finish_resets (c : ErrCode) : (s.finish c).resets = s.resets := rfl

/-! `setMark` (70_reset_and_hazards.md R157). -/

@[simp] theorem State.setMark_busy (v : Violation) : (s.setMark v).busy = s.busy := rfl
@[simp] theorem State.setMark_done (v : Violation) : (s.setMark v).done = s.done := rfl
@[simp] theorem State.setMark_err (v : Violation) : (s.setMark v).err = s.err := rfl
@[simp] theorem State.setMark_keyValid (v : Violation) : (s.setMark v).keyValid = s.keyValid := rfl
@[simp] theorem State.setMark_ovr (v : Violation) : (s.setMark v).ovr = s.ovr := rfl
@[simp] theorem State.setMark_errcode (v : Violation) : (s.setMark v).errcode = s.errcode := rfl
@[simp] theorem State.setMark_pend (v : Violation) : (s.setMark v).pend = s.pend := rfl
@[simp] theorem State.setMark_len (v : Violation) : (s.setMark v).len = s.len := rfl
@[simp] theorem State.setMark_keyin (v : Violation) : (s.setMark v).keyin = s.keyin := rfl
@[simp] theorem State.setMark_key (v : Violation) : (s.setMark v).key = s.key := rfl
@[simp] theorem State.setMark_khash (v : Violation) : (s.setMark v).khash = s.khash := rfl
@[simp] theorem State.setMark_off (v : Violation) : (s.setMark v).off = s.off := rfl
@[simp] theorem State.setMark_mem (v : Violation) : (s.setMark v).mem = s.mem := rfl
@[simp] theorem State.setMark_mark (v : Violation) : (s.setMark v).mark = s.mark.or (some v) := rfl
@[simp] theorem State.setMark_program (v : Violation) : (s.setMark v).program = s.program := rfl
@[simp] theorem State.setMark_readings (v : Violation) : (s.setMark v).readings = s.readings := rfl
@[simp] theorem State.setMark_turns (v : Violation) : (s.setMark v).turns = s.turns := rfl
@[simp] theorem State.setMark_draws (v : Violation) : (s.setMark v).draws = s.draws := rfl
@[simp] theorem State.setMark_frees (v : Violation) : (s.setMark v).frees = s.frees := rfl
@[simp] theorem State.setMark_resets (v : Violation) : (s.setMark v).resets = s.resets := rfl

/-! `releaseOff` (10_state.md R35). -/

@[simp] theorem State.releaseOff_busy : (s.releaseOff cfg).busy = s.busy := rfl
@[simp] theorem State.releaseOff_done : (s.releaseOff cfg).done = s.done := rfl
@[simp] theorem State.releaseOff_err : (s.releaseOff cfg).err = s.err := rfl
@[simp] theorem State.releaseOff_keyValid : (s.releaseOff cfg).keyValid = s.keyValid := rfl
@[simp] theorem State.releaseOff_ovr : (s.releaseOff cfg).ovr = s.ovr := rfl
@[simp] theorem State.releaseOff_errcode : (s.releaseOff cfg).errcode = s.errcode := rfl
@[simp] theorem State.releaseOff_pend : (s.releaseOff cfg).pend = s.pend := rfl
@[simp] theorem State.releaseOff_len : (s.releaseOff cfg).len = s.len := rfl
@[simp] theorem State.releaseOff_keyin : (s.releaseOff cfg).keyin = s.keyin := rfl
@[simp] theorem State.releaseOff_key : (s.releaseOff cfg).key = s.key := rfl
@[simp] theorem State.releaseOff_khash : (s.releaseOff cfg).khash = s.khash := rfl
@[simp] theorem State.releaseOff_off : (s.releaseOff cfg).off = cfg.offAfter s.frees := rfl
@[simp] theorem State.releaseOff_mem : (s.releaseOff cfg).mem = s.mem := rfl
@[simp] theorem State.releaseOff_mark : (s.releaseOff cfg).mark = s.mark := rfl
@[simp] theorem State.releaseOff_program : (s.releaseOff cfg).program = s.program := rfl
@[simp] theorem State.releaseOff_readings : (s.releaseOff cfg).readings = s.readings := rfl
@[simp] theorem State.releaseOff_turns : (s.releaseOff cfg).turns = s.turns := rfl
@[simp] theorem State.releaseOff_draws : (s.releaseOff cfg).draws = s.draws := rfl
@[simp] theorem State.releaseOff_frees : (s.releaseOff cfg).frees = s.frees + 1 := rfl
@[simp] theorem State.releaseOff_resets : (s.releaseOff cfg).resets = s.resets := rfl

/-! `applyReset` (70_reset_and_hazards.md R150, R151). -/

@[simp] theorem State.applyReset_busy : (s.applyReset cfg).busy = false := rfl
@[simp] theorem State.applyReset_done : (s.applyReset cfg).done = false := rfl
@[simp] theorem State.applyReset_err : (s.applyReset cfg).err = false := rfl
@[simp] theorem State.applyReset_keyValid : (s.applyReset cfg).keyValid = false := rfl
@[simp] theorem State.applyReset_ovr : (s.applyReset cfg).ovr = false := rfl
@[simp] theorem State.applyReset_errcode : (s.applyReset cfg).errcode = 0 := rfl
@[simp] theorem State.applyReset_pend : (s.applyReset cfg).pend = 0 := rfl
@[simp] theorem State.applyReset_len : (s.applyReset cfg).len = 0 := rfl
@[simp] theorem State.applyReset_keyin : (s.applyReset cfg).keyin = Vector.replicate 16 0 := rfl
@[simp] theorem State.applyReset_key : (s.applyReset cfg).key = Vector.replicate 16 0 := rfl
@[simp] theorem State.applyReset_khash : (s.applyReset cfg).khash = cfg.khashReset (s.resets + 1) := rfl
@[simp] theorem State.applyReset_off : (s.applyReset cfg).off = cfg.offReset (s.resets + 1) := rfl
@[simp] theorem State.applyReset_mem : (s.applyReset cfg).mem = [] := rfl
@[simp] theorem State.applyReset_mark : (s.applyReset cfg).mark = s.mark := rfl
@[simp] theorem State.applyReset_program : (s.applyReset cfg).program = s.program := rfl
@[simp] theorem State.applyReset_readings : (s.applyReset cfg).readings = s.readings := rfl
@[simp] theorem State.applyReset_turns : (s.applyReset cfg).turns = s.turns := rfl
@[simp] theorem State.applyReset_draws : (s.applyReset cfg).draws = s.draws := rfl
@[simp] theorem State.applyReset_frees : (s.applyReset cfg).frees = s.frees := rfl
@[simp] theorem State.applyReset_resets : (s.applyReset cfg).resets = s.resets + 1 := rfl

/-! `normalize` (42_length_normalizer.md R86). -/

@[simp] theorem State.normalize_busy (n : Nat) : (s.normalize cfg n).busy = s.busy := rfl
@[simp] theorem State.normalize_done (n : Nat) : (s.normalize cfg n).done = s.done := rfl
@[simp] theorem State.normalize_err (n : Nat) : (s.normalize cfg n).err = s.err := rfl
@[simp] theorem State.normalize_keyValid (n : Nat) : (s.normalize cfg n).keyValid = s.keyValid := rfl
@[simp] theorem State.normalize_ovr (n : Nat) : (s.normalize cfg n).ovr = s.ovr := rfl
@[simp] theorem State.normalize_errcode (n : Nat) : (s.normalize cfg n).errcode = s.errcode := rfl
@[simp] theorem State.normalize_pend (n : Nat) : (s.normalize cfg n).pend = s.pend := rfl
@[simp] theorem State.normalize_len (n : Nat) : (s.normalize cfg n).len = s.len := rfl
@[simp] theorem State.normalize_keyin (n : Nat) : (s.normalize cfg n).keyin = s.keyin := rfl
@[simp] theorem State.normalize_key (n : Nat) : (s.normalize cfg n).key = s.key := rfl
@[simp] theorem State.normalize_khash (n : Nat) : (s.normalize cfg n).khash = s.khash := rfl
@[simp] theorem State.normalize_off (n : Nat) : (s.normalize cfg n).off = s.off := rfl
@[simp] theorem State.normalize_mark (n : Nat) : (s.normalize cfg n).mark = s.mark := rfl
@[simp] theorem State.normalize_program (n : Nat) : (s.normalize cfg n).program = s.program := rfl
@[simp] theorem State.normalize_readings (n : Nat) : (s.normalize cfg n).readings = s.readings := rfl
@[simp] theorem State.normalize_turns (n : Nat) : (s.normalize cfg n).turns = s.turns := rfl
@[simp] theorem State.normalize_draws (n : Nat) : (s.normalize cfg n).draws = s.draws + padCount n := rfl
@[simp] theorem State.normalize_frees (n : Nat) : (s.normalize cfg n).frees = s.frees := rfl
@[simp] theorem State.normalize_resets (n : Nat) : (s.normalize cfg n).resets = s.resets := rfl

/-! `offsetGen` (43_offset_embedder.md R92). -/

@[simp] theorem State.offsetGen_busy : (s.offsetGen cfg).busy = s.busy := rfl
@[simp] theorem State.offsetGen_done : (s.offsetGen cfg).done = s.done := rfl
@[simp] theorem State.offsetGen_err : (s.offsetGen cfg).err = s.err := rfl
@[simp] theorem State.offsetGen_keyValid : (s.offsetGen cfg).keyValid = s.keyValid := rfl
@[simp] theorem State.offsetGen_ovr : (s.offsetGen cfg).ovr = s.ovr := rfl
@[simp] theorem State.offsetGen_errcode : (s.offsetGen cfg).errcode = s.errcode := rfl
@[simp] theorem State.offsetGen_pend : (s.offsetGen cfg).pend = s.pend := rfl
@[simp] theorem State.offsetGen_len : (s.offsetGen cfg).len = s.len := rfl
@[simp] theorem State.offsetGen_keyin : (s.offsetGen cfg).keyin = s.keyin := rfl
@[simp] theorem State.offsetGen_key : (s.offsetGen cfg).key = s.key := rfl
@[simp] theorem State.offsetGen_khash : (s.offsetGen cfg).khash = s.khash := rfl
@[simp] theorem State.offsetGen_off : (s.offsetGen cfg).off = offsetsOf fun k => cfg.draw (s.draws + k) := rfl
@[simp] theorem State.offsetGen_mem : (s.offsetGen cfg).mem = s.mem := rfl
@[simp] theorem State.offsetGen_mark : (s.offsetGen cfg).mark = s.mark := rfl
@[simp] theorem State.offsetGen_program : (s.offsetGen cfg).program = s.program := rfl
@[simp] theorem State.offsetGen_readings : (s.offsetGen cfg).readings = s.readings := rfl
@[simp] theorem State.offsetGen_turns : (s.offsetGen cfg).turns = s.turns := rfl
@[simp] theorem State.offsetGen_draws : (s.offsetGen cfg).draws = s.draws + 8 := rfl
@[simp] theorem State.offsetGen_frees : (s.offsetGen cfg).frees = s.frees := rfl
@[simp] theorem State.offsetGen_resets : (s.offsetGen cfg).resets = s.resets := rfl

/-! `mix` (44_byte_mixer.md R109). -/

@[simp] theorem State.mix_busy (par : Bool) (m : Nat) : (s.mix cfg par m).busy = s.busy := rfl
@[simp] theorem State.mix_done (par : Bool) (m : Nat) : (s.mix cfg par m).done = s.done := rfl
@[simp] theorem State.mix_err (par : Bool) (m : Nat) : (s.mix cfg par m).err = s.err := rfl
@[simp] theorem State.mix_keyValid (par : Bool) (m : Nat) : (s.mix cfg par m).keyValid = s.keyValid := rfl
@[simp] theorem State.mix_ovr (par : Bool) (m : Nat) : (s.mix cfg par m).ovr = s.ovr := rfl
@[simp] theorem State.mix_errcode (par : Bool) (m : Nat) : (s.mix cfg par m).errcode = s.errcode := rfl
@[simp] theorem State.mix_pend (par : Bool) (m : Nat) : (s.mix cfg par m).pend = s.pend := rfl
@[simp] theorem State.mix_len (par : Bool) (m : Nat) : (s.mix cfg par m).len = s.len := rfl
@[simp] theorem State.mix_keyin (par : Bool) (m : Nat) : (s.mix cfg par m).keyin = s.keyin := rfl
@[simp] theorem State.mix_key (par : Bool) (m : Nat) : (s.mix cfg par m).key = s.key := rfl
@[simp] theorem State.mix_khash (par : Bool) (m : Nat) : (s.mix cfg par m).khash = s.khash := rfl
@[simp] theorem State.mix_off (par : Bool) (m : Nat) : (s.mix cfg par m).off = s.off := rfl
@[simp] theorem State.mix_mark (par : Bool) (m : Nat) : (s.mix cfg par m).mark = s.mark := rfl
@[simp] theorem State.mix_program (par : Bool) (m : Nat) : (s.mix cfg par m).program = s.program := rfl
@[simp] theorem State.mix_readings (par : Bool) (m : Nat) : (s.mix cfg par m).readings = s.readings := rfl
@[simp] theorem State.mix_turns (par : Bool) (m : Nat) : (s.mix cfg par m).turns = s.turns := rfl
@[simp] theorem State.mix_draws (par : Bool) (m : Nat) : (s.mix cfg par m).draws = s.draws := rfl
@[simp] theorem State.mix_frees (par : Bool) (m : Nat) : (s.mix cfg par m).frees = s.frees := rfl
@[simp] theorem State.mix_resets (par : Bool) (m : Nat) : (s.mix cfg par m).resets = s.resets := rfl

/-! `unmix` (44_byte_mixer.md R110). -/

@[simp] theorem State.unmix_busy (par : Bool) (m : Nat) : (s.unmix cfg par m).busy = s.busy := rfl
@[simp] theorem State.unmix_done (par : Bool) (m : Nat) : (s.unmix cfg par m).done = s.done := rfl
@[simp] theorem State.unmix_err (par : Bool) (m : Nat) : (s.unmix cfg par m).err = s.err := rfl
@[simp] theorem State.unmix_keyValid (par : Bool) (m : Nat) : (s.unmix cfg par m).keyValid = s.keyValid := rfl
@[simp] theorem State.unmix_ovr (par : Bool) (m : Nat) : (s.unmix cfg par m).ovr = s.ovr := rfl
@[simp] theorem State.unmix_errcode (par : Bool) (m : Nat) : (s.unmix cfg par m).errcode = s.errcode := rfl
@[simp] theorem State.unmix_pend (par : Bool) (m : Nat) : (s.unmix cfg par m).pend = s.pend := rfl
@[simp] theorem State.unmix_len (par : Bool) (m : Nat) : (s.unmix cfg par m).len = s.len := rfl
@[simp] theorem State.unmix_keyin (par : Bool) (m : Nat) : (s.unmix cfg par m).keyin = s.keyin := rfl
@[simp] theorem State.unmix_key (par : Bool) (m : Nat) : (s.unmix cfg par m).key = s.key := rfl
@[simp] theorem State.unmix_khash (par : Bool) (m : Nat) : (s.unmix cfg par m).khash = s.khash := rfl
@[simp] theorem State.unmix_off (par : Bool) (m : Nat) : (s.unmix cfg par m).off = s.off := rfl
@[simp] theorem State.unmix_mark (par : Bool) (m : Nat) : (s.unmix cfg par m).mark = s.mark := rfl
@[simp] theorem State.unmix_program (par : Bool) (m : Nat) : (s.unmix cfg par m).program = s.program := rfl
@[simp] theorem State.unmix_readings (par : Bool) (m : Nat) : (s.unmix cfg par m).readings = s.readings := rfl
@[simp] theorem State.unmix_turns (par : Bool) (m : Nat) : (s.unmix cfg par m).turns = s.turns := rfl
@[simp] theorem State.unmix_draws (par : Bool) (m : Nat) : (s.unmix cfg par m).draws = s.draws := rfl
@[simp] theorem State.unmix_frees (par : Bool) (m : Nat) : (s.unmix cfg par m).frees = s.frees := rfl
@[simp] theorem State.unmix_resets (par : Bool) (m : Nat) : (s.unmix cfg par m).resets = s.resets := rfl

/-! `embed` (43_offset_embedder.md R95). -/

@[simp] theorem State.embed_busy (m : Nat) : (s.embed m).busy = s.busy := rfl
@[simp] theorem State.embed_done (m : Nat) : (s.embed m).done = s.done := rfl
@[simp] theorem State.embed_err (m : Nat) : (s.embed m).err = s.err := rfl
@[simp] theorem State.embed_keyValid (m : Nat) : (s.embed m).keyValid = s.keyValid := rfl
@[simp] theorem State.embed_ovr (m : Nat) : (s.embed m).ovr = s.ovr := rfl
@[simp] theorem State.embed_errcode (m : Nat) : (s.embed m).errcode = s.errcode := rfl
@[simp] theorem State.embed_pend (m : Nat) : (s.embed m).pend = s.pend := rfl
@[simp] theorem State.embed_len (m : Nat) : (s.embed m).len = s.len := rfl
@[simp] theorem State.embed_keyin (m : Nat) : (s.embed m).keyin = s.keyin := rfl
@[simp] theorem State.embed_key (m : Nat) : (s.embed m).key = s.key := rfl
@[simp] theorem State.embed_khash (m : Nat) : (s.embed m).khash = s.khash := rfl
@[simp] theorem State.embed_off (m : Nat) : (s.embed m).off = s.off := rfl
@[simp] theorem State.embed_mark (m : Nat) : (s.embed m).mark = s.mark := rfl
@[simp] theorem State.embed_program (m : Nat) : (s.embed m).program = s.program := rfl
@[simp] theorem State.embed_readings (m : Nat) : (s.embed m).readings = s.readings := rfl
@[simp] theorem State.embed_turns (m : Nat) : (s.embed m).turns = s.turns := rfl
@[simp] theorem State.embed_draws (m : Nat) : (s.embed m).draws = s.draws := rfl
@[simp] theorem State.embed_frees (m : Nat) : (s.embed m).frees = s.frees := rfl
@[simp] theorem State.embed_resets (m : Nat) : (s.embed m).resets = s.resets := rfl

/-! `extract` (43_offset_embedder.md R96). -/

@[simp] theorem State.extract_busy (m : Nat) : (s.extract cfg m).busy = s.busy := rfl
@[simp] theorem State.extract_done (m : Nat) : (s.extract cfg m).done = s.done := rfl
@[simp] theorem State.extract_err (m : Nat) : (s.extract cfg m).err = s.err := rfl
@[simp] theorem State.extract_keyValid (m : Nat) : (s.extract cfg m).keyValid = s.keyValid := rfl
@[simp] theorem State.extract_ovr (m : Nat) : (s.extract cfg m).ovr = s.ovr := rfl
@[simp] theorem State.extract_errcode (m : Nat) : (s.extract cfg m).errcode = s.errcode := rfl
@[simp] theorem State.extract_pend (m : Nat) : (s.extract cfg m).pend = s.pend := rfl
@[simp] theorem State.extract_len (m : Nat) : (s.extract cfg m).len = s.len := rfl
@[simp] theorem State.extract_keyin (m : Nat) : (s.extract cfg m).keyin = s.keyin := rfl
@[simp] theorem State.extract_key (m : Nat) : (s.extract cfg m).key = s.key := rfl
@[simp] theorem State.extract_khash (m : Nat) : (s.extract cfg m).khash = s.khash := rfl
@[simp] theorem State.extract_mem (m : Nat) : (s.extract cfg m).mem = s.mem := rfl
@[simp] theorem State.extract_mark (m : Nat) : (s.extract cfg m).mark = s.mark := rfl
@[simp] theorem State.extract_program (m : Nat) : (s.extract cfg m).program = s.program := rfl
@[simp] theorem State.extract_readings (m : Nat) : (s.extract cfg m).readings = s.readings := rfl
@[simp] theorem State.extract_turns (m : Nat) : (s.extract cfg m).turns = s.turns := rfl
@[simp] theorem State.extract_draws (m : Nat) : (s.extract cfg m).draws = s.draws := rfl
@[simp] theorem State.extract_frees (m : Nat) : (s.extract cfg m).frees = s.frees := rfl
@[simp] theorem State.extract_resets (m : Nat) : (s.extract cfg m).resets = s.resets := rfl

/-! `setLen` (10_state.md R29). -/

@[simp] theorem State.setLen_busy (v : Word) : (s.setLen v).busy = s.busy := rfl
@[simp] theorem State.setLen_done (v : Word) : (s.setLen v).done = s.done := rfl
@[simp] theorem State.setLen_err (v : Word) : (s.setLen v).err = s.err := rfl
@[simp] theorem State.setLen_keyValid (v : Word) : (s.setLen v).keyValid = s.keyValid := rfl
@[simp] theorem State.setLen_ovr (v : Word) : (s.setLen v).ovr = s.ovr := rfl
@[simp] theorem State.setLen_errcode (v : Word) : (s.setLen v).errcode = s.errcode := rfl
@[simp] theorem State.setLen_pend (v : Word) : (s.setLen v).pend = s.pend := rfl
@[simp] theorem State.setLen_len (v : Word) : (s.setLen v).len = v := rfl
@[simp] theorem State.setLen_keyin (v : Word) : (s.setLen v).keyin = s.keyin := rfl
@[simp] theorem State.setLen_key (v : Word) : (s.setLen v).key = s.key := rfl
@[simp] theorem State.setLen_khash (v : Word) : (s.setLen v).khash = s.khash := rfl
@[simp] theorem State.setLen_off (v : Word) : (s.setLen v).off = s.off := rfl
@[simp] theorem State.setLen_mem (v : Word) : (s.setLen v).mem = s.mem := rfl
@[simp] theorem State.setLen_mark (v : Word) : (s.setLen v).mark = s.mark := rfl
@[simp] theorem State.setLen_program (v : Word) : (s.setLen v).program = s.program := rfl
@[simp] theorem State.setLen_readings (v : Word) : (s.setLen v).readings = s.readings := rfl
@[simp] theorem State.setLen_turns (v : Word) : (s.setLen v).turns = s.turns := rfl
@[simp] theorem State.setLen_draws (v : Word) : (s.setLen v).draws = s.draws := rfl
@[simp] theorem State.setLen_frees (v : Word) : (s.setLen v).frees = s.frees := rfl
@[simp] theorem State.setLen_resets (v : Word) : (s.setLen v).resets = s.resets := rfl

/-! `dropBytes` (45_transform.md R118). -/

@[simp] theorem State.dropBytes_busy (n' n : Nat) : (s.dropBytes cfg n' n).busy = s.busy := rfl
@[simp] theorem State.dropBytes_done (n' n : Nat) : (s.dropBytes cfg n' n).done = s.done := rfl
@[simp] theorem State.dropBytes_err (n' n : Nat) : (s.dropBytes cfg n' n).err = s.err := rfl
@[simp] theorem State.dropBytes_keyValid (n' n : Nat) : (s.dropBytes cfg n' n).keyValid = s.keyValid := rfl
@[simp] theorem State.dropBytes_ovr (n' n : Nat) : (s.dropBytes cfg n' n).ovr = s.ovr := rfl
@[simp] theorem State.dropBytes_errcode (n' n : Nat) : (s.dropBytes cfg n' n).errcode = s.errcode := rfl
@[simp] theorem State.dropBytes_pend (n' n : Nat) : (s.dropBytes cfg n' n).pend = s.pend := rfl
@[simp] theorem State.dropBytes_len (n' n : Nat) : (s.dropBytes cfg n' n).len = s.len := rfl
@[simp] theorem State.dropBytes_keyin (n' n : Nat) : (s.dropBytes cfg n' n).keyin = s.keyin := rfl
@[simp] theorem State.dropBytes_key (n' n : Nat) : (s.dropBytes cfg n' n).key = s.key := rfl
@[simp] theorem State.dropBytes_khash (n' n : Nat) : (s.dropBytes cfg n' n).khash = s.khash := rfl
@[simp] theorem State.dropBytes_off (n' n : Nat) : (s.dropBytes cfg n' n).off = s.off := rfl
@[simp] theorem State.dropBytes_mark (n' n : Nat) : (s.dropBytes cfg n' n).mark = s.mark := rfl
@[simp] theorem State.dropBytes_program (n' n : Nat) : (s.dropBytes cfg n' n).program = s.program := rfl
@[simp] theorem State.dropBytes_readings (n' n : Nat) : (s.dropBytes cfg n' n).readings = s.readings := rfl
@[simp] theorem State.dropBytes_turns (n' n : Nat) : (s.dropBytes cfg n' n).turns = s.turns := rfl
@[simp] theorem State.dropBytes_draws (n' n : Nat) : (s.dropBytes cfg n' n).draws = s.draws := rfl
@[simp] theorem State.dropBytes_frees (n' n : Nat) : (s.dropBytes cfg n' n).frees = s.frees := rfl
@[simp] theorem State.dropBytes_resets (n' n : Nat) : (s.dropBytes cfg n' n).resets = s.resets := rfl

/-! `setProgram` (30_encoding.md R74). -/

@[simp] theorem State.setProgram_busy (p : List HostOp) : (s.setProgram p).busy = s.busy := rfl
@[simp] theorem State.setProgram_done (p : List HostOp) : (s.setProgram p).done = s.done := rfl
@[simp] theorem State.setProgram_err (p : List HostOp) : (s.setProgram p).err = s.err := rfl
@[simp] theorem State.setProgram_keyValid (p : List HostOp) : (s.setProgram p).keyValid = s.keyValid := rfl
@[simp] theorem State.setProgram_ovr (p : List HostOp) : (s.setProgram p).ovr = s.ovr := rfl
@[simp] theorem State.setProgram_errcode (p : List HostOp) : (s.setProgram p).errcode = s.errcode := rfl
@[simp] theorem State.setProgram_pend (p : List HostOp) : (s.setProgram p).pend = s.pend := rfl
@[simp] theorem State.setProgram_len (p : List HostOp) : (s.setProgram p).len = s.len := rfl
@[simp] theorem State.setProgram_keyin (p : List HostOp) : (s.setProgram p).keyin = s.keyin := rfl
@[simp] theorem State.setProgram_key (p : List HostOp) : (s.setProgram p).key = s.key := rfl
@[simp] theorem State.setProgram_khash (p : List HostOp) : (s.setProgram p).khash = s.khash := rfl
@[simp] theorem State.setProgram_off (p : List HostOp) : (s.setProgram p).off = s.off := rfl
@[simp] theorem State.setProgram_mem (p : List HostOp) : (s.setProgram p).mem = s.mem := rfl
@[simp] theorem State.setProgram_mark (p : List HostOp) : (s.setProgram p).mark = s.mark := rfl
@[simp] theorem State.setProgram_program (p : List HostOp) : (s.setProgram p).program = p := rfl
@[simp] theorem State.setProgram_readings (p : List HostOp) : (s.setProgram p).readings = s.readings := rfl
@[simp] theorem State.setProgram_turns (p : List HostOp) : (s.setProgram p).turns = s.turns := rfl
@[simp] theorem State.setProgram_draws (p : List HostOp) : (s.setProgram p).draws = s.draws := rfl
@[simp] theorem State.setProgram_frees (p : List HostOp) : (s.setProgram p).frees = s.frees := rfl
@[simp] theorem State.setProgram_resets (p : List HostOp) : (s.setProgram p).resets = s.resets := rfl

/-! `setTurns` (20_memory.md R56). -/

@[simp] theorem State.setTurns_busy (ts : List Turn) : (s.setTurns ts).busy = s.busy := rfl
@[simp] theorem State.setTurns_done (ts : List Turn) : (s.setTurns ts).done = s.done := rfl
@[simp] theorem State.setTurns_err (ts : List Turn) : (s.setTurns ts).err = s.err := rfl
@[simp] theorem State.setTurns_keyValid (ts : List Turn) : (s.setTurns ts).keyValid = s.keyValid := rfl
@[simp] theorem State.setTurns_ovr (ts : List Turn) : (s.setTurns ts).ovr = s.ovr := rfl
@[simp] theorem State.setTurns_errcode (ts : List Turn) : (s.setTurns ts).errcode = s.errcode := rfl
@[simp] theorem State.setTurns_pend (ts : List Turn) : (s.setTurns ts).pend = s.pend := rfl
@[simp] theorem State.setTurns_len (ts : List Turn) : (s.setTurns ts).len = s.len := rfl
@[simp] theorem State.setTurns_keyin (ts : List Turn) : (s.setTurns ts).keyin = s.keyin := rfl
@[simp] theorem State.setTurns_key (ts : List Turn) : (s.setTurns ts).key = s.key := rfl
@[simp] theorem State.setTurns_khash (ts : List Turn) : (s.setTurns ts).khash = s.khash := rfl
@[simp] theorem State.setTurns_off (ts : List Turn) : (s.setTurns ts).off = s.off := rfl
@[simp] theorem State.setTurns_mem (ts : List Turn) : (s.setTurns ts).mem = s.mem := rfl
@[simp] theorem State.setTurns_mark (ts : List Turn) : (s.setTurns ts).mark = s.mark := rfl
@[simp] theorem State.setTurns_program (ts : List Turn) : (s.setTurns ts).program = s.program := rfl
@[simp] theorem State.setTurns_readings (ts : List Turn) : (s.setTurns ts).readings = s.readings := rfl
@[simp] theorem State.setTurns_turns (ts : List Turn) : (s.setTurns ts).turns = ts := rfl
@[simp] theorem State.setTurns_draws (ts : List Turn) : (s.setTurns ts).draws = s.draws := rfl
@[simp] theorem State.setTurns_frees (ts : List Turn) : (s.setTurns ts).frees = s.frees := rfl
@[simp] theorem State.setTurns_resets (ts : List Turn) : (s.setTurns ts).resets = s.resets := rfl

/-! `addReading` (30_encoding.md R74). -/

@[simp] theorem State.addReading_busy (r : Reading) : (s.addReading r).busy = s.busy := rfl
@[simp] theorem State.addReading_done (r : Reading) : (s.addReading r).done = s.done := rfl
@[simp] theorem State.addReading_err (r : Reading) : (s.addReading r).err = s.err := rfl
@[simp] theorem State.addReading_keyValid (r : Reading) : (s.addReading r).keyValid = s.keyValid := rfl
@[simp] theorem State.addReading_ovr (r : Reading) : (s.addReading r).ovr = s.ovr := rfl
@[simp] theorem State.addReading_errcode (r : Reading) : (s.addReading r).errcode = s.errcode := rfl
@[simp] theorem State.addReading_pend (r : Reading) : (s.addReading r).pend = s.pend := rfl
@[simp] theorem State.addReading_len (r : Reading) : (s.addReading r).len = s.len := rfl
@[simp] theorem State.addReading_keyin (r : Reading) : (s.addReading r).keyin = s.keyin := rfl
@[simp] theorem State.addReading_key (r : Reading) : (s.addReading r).key = s.key := rfl
@[simp] theorem State.addReading_khash (r : Reading) : (s.addReading r).khash = s.khash := rfl
@[simp] theorem State.addReading_off (r : Reading) : (s.addReading r).off = s.off := rfl
@[simp] theorem State.addReading_mem (r : Reading) : (s.addReading r).mem = s.mem := rfl
@[simp] theorem State.addReading_mark (r : Reading) : (s.addReading r).mark = s.mark := rfl
@[simp] theorem State.addReading_program (r : Reading) : (s.addReading r).program = s.program := rfl
@[simp] theorem State.addReading_readings (r : Reading) : (s.addReading r).readings = s.readings ++ [r] := rfl
@[simp] theorem State.addReading_turns (r : Reading) : (s.addReading r).turns = s.turns := rfl
@[simp] theorem State.addReading_draws (r : Reading) : (s.addReading r).draws = s.draws := rfl
@[simp] theorem State.addReading_frees (r : Reading) : (s.addReading r).frees = s.frees := rfl
@[simp] theorem State.addReading_resets (r : Reading) : (s.addReading r).resets = s.resets := rfl

/-! `setKeyin` (10_state.md R31). -/

@[simp] theorem State.setKeyin_busy (v : Vector Byte 16) : (s.setKeyin v).busy = s.busy := rfl
@[simp] theorem State.setKeyin_done (v : Vector Byte 16) : (s.setKeyin v).done = s.done := rfl
@[simp] theorem State.setKeyin_err (v : Vector Byte 16) : (s.setKeyin v).err = s.err := rfl
@[simp] theorem State.setKeyin_keyValid (v : Vector Byte 16) : (s.setKeyin v).keyValid = s.keyValid := rfl
@[simp] theorem State.setKeyin_ovr (v : Vector Byte 16) : (s.setKeyin v).ovr = s.ovr := rfl
@[simp] theorem State.setKeyin_errcode (v : Vector Byte 16) : (s.setKeyin v).errcode = s.errcode := rfl
@[simp] theorem State.setKeyin_pend (v : Vector Byte 16) : (s.setKeyin v).pend = s.pend := rfl
@[simp] theorem State.setKeyin_len (v : Vector Byte 16) : (s.setKeyin v).len = s.len := rfl
@[simp] theorem State.setKeyin_keyin (v : Vector Byte 16) : (s.setKeyin v).keyin = v := rfl
@[simp] theorem State.setKeyin_key (v : Vector Byte 16) : (s.setKeyin v).key = s.key := rfl
@[simp] theorem State.setKeyin_khash (v : Vector Byte 16) : (s.setKeyin v).khash = s.khash := rfl
@[simp] theorem State.setKeyin_off (v : Vector Byte 16) : (s.setKeyin v).off = s.off := rfl
@[simp] theorem State.setKeyin_mem (v : Vector Byte 16) : (s.setKeyin v).mem = s.mem := rfl
@[simp] theorem State.setKeyin_mark (v : Vector Byte 16) : (s.setKeyin v).mark = s.mark := rfl
@[simp] theorem State.setKeyin_program (v : Vector Byte 16) : (s.setKeyin v).program = s.program := rfl
@[simp] theorem State.setKeyin_readings (v : Vector Byte 16) : (s.setKeyin v).readings = s.readings := rfl
@[simp] theorem State.setKeyin_turns (v : Vector Byte 16) : (s.setKeyin v).turns = s.turns := rfl
@[simp] theorem State.setKeyin_draws (v : Vector Byte 16) : (s.setKeyin v).draws = s.draws := rfl
@[simp] theorem State.setKeyin_frees (v : Vector Byte 16) : (s.setKeyin v).frees = s.frees := rfl
@[simp] theorem State.setKeyin_resets (v : Vector Byte 16) : (s.setKeyin v).resets = s.resets := rfl

/-! `useFree` (log 5). -/

@[simp] theorem State.useFree_busy : (s.useFree).busy = s.busy := rfl
@[simp] theorem State.useFree_done : (s.useFree).done = s.done := rfl
@[simp] theorem State.useFree_err : (s.useFree).err = s.err := rfl
@[simp] theorem State.useFree_keyValid : (s.useFree).keyValid = s.keyValid := rfl
@[simp] theorem State.useFree_ovr : (s.useFree).ovr = s.ovr := rfl
@[simp] theorem State.useFree_errcode : (s.useFree).errcode = s.errcode := rfl
@[simp] theorem State.useFree_pend : (s.useFree).pend = s.pend := rfl
@[simp] theorem State.useFree_len : (s.useFree).len = s.len := rfl
@[simp] theorem State.useFree_keyin : (s.useFree).keyin = s.keyin := rfl
@[simp] theorem State.useFree_key : (s.useFree).key = s.key := rfl
@[simp] theorem State.useFree_khash : (s.useFree).khash = s.khash := rfl
@[simp] theorem State.useFree_off : (s.useFree).off = s.off := rfl
@[simp] theorem State.useFree_mem : (s.useFree).mem = s.mem := rfl
@[simp] theorem State.useFree_mark : (s.useFree).mark = s.mark := rfl
@[simp] theorem State.useFree_program : (s.useFree).program = s.program := rfl
@[simp] theorem State.useFree_readings : (s.useFree).readings = s.readings := rfl
@[simp] theorem State.useFree_turns : (s.useFree).turns = s.turns := rfl
@[simp] theorem State.useFree_draws : (s.useFree).draws = s.draws := rfl
@[simp] theorem State.useFree_frees : (s.useFree).frees = s.frees + 1 := rfl
@[simp] theorem State.useFree_resets : (s.useFree).resets = s.resets := rfl

/-! `complete` (10_state.md R23 to R26). -/

@[simp] theorem State.complete_busy : (s.complete).busy = false := rfl
@[simp] theorem State.complete_done : (s.complete).done = true := rfl
@[simp] theorem State.complete_err : (s.complete).err = false := rfl
@[simp] theorem State.complete_keyValid : (s.complete).keyValid = s.keyValid := rfl
@[simp] theorem State.complete_ovr : (s.complete).ovr = s.ovr := rfl
@[simp] theorem State.complete_errcode : (s.complete).errcode = 0 := rfl
@[simp] theorem State.complete_pend : (s.complete).pend = 0 := rfl
@[simp] theorem State.complete_len : (s.complete).len = s.len := rfl
@[simp] theorem State.complete_keyin : (s.complete).keyin = s.keyin := rfl
@[simp] theorem State.complete_key : (s.complete).key = s.key := rfl
@[simp] theorem State.complete_khash : (s.complete).khash = s.khash := rfl
@[simp] theorem State.complete_off : (s.complete).off = s.off := rfl
@[simp] theorem State.complete_mem : (s.complete).mem = s.mem := rfl
@[simp] theorem State.complete_mark : (s.complete).mark = s.mark := rfl
@[simp] theorem State.complete_program : (s.complete).program = s.program := rfl
@[simp] theorem State.complete_readings : (s.complete).readings = s.readings := rfl
@[simp] theorem State.complete_turns : (s.complete).turns = s.turns := rfl
@[simp] theorem State.complete_draws : (s.complete).draws = s.draws := rfl
@[simp] theorem State.complete_frees : (s.complete).frees = s.frees := rfl
@[simp] theorem State.complete_resets : (s.complete).resets = s.resets := rfl

/-! `raiseError` (60_exceptions.md R137). -/

@[simp] theorem State.raiseError_busy (c : ErrCode) : (s.raiseError cfg c).busy = false := rfl
@[simp] theorem State.raiseError_done (c : ErrCode) : (s.raiseError cfg c).done = true := rfl
@[simp] theorem State.raiseError_err (c : ErrCode) : (s.raiseError cfg c).err = decide (c ≠ .none) := rfl
@[simp] theorem State.raiseError_keyValid (c : ErrCode) : (s.raiseError cfg c).keyValid = s.keyValid := rfl
@[simp] theorem State.raiseError_ovr (c : ErrCode) : (s.raiseError cfg c).ovr = s.ovr := rfl
@[simp] theorem State.raiseError_errcode (c : ErrCode) : (s.raiseError cfg c).errcode = c.bits := rfl
@[simp] theorem State.raiseError_pend (c : ErrCode) : (s.raiseError cfg c).pend = 0 := rfl
@[simp] theorem State.raiseError_len (c : ErrCode) : (s.raiseError cfg c).len = s.len := rfl
@[simp] theorem State.raiseError_keyin (c : ErrCode) : (s.raiseError cfg c).keyin = s.keyin := rfl
@[simp] theorem State.raiseError_key (c : ErrCode) : (s.raiseError cfg c).key = s.key := rfl
@[simp] theorem State.raiseError_khash (c : ErrCode) : (s.raiseError cfg c).khash = s.khash := rfl
@[simp] theorem State.raiseError_off (c : ErrCode) : (s.raiseError cfg c).off = cfg.offAfter s.frees := rfl
@[simp] theorem State.raiseError_mem (c : ErrCode) : (s.raiseError cfg c).mem = s.mem := rfl
@[simp] theorem State.raiseError_mark (c : ErrCode) : (s.raiseError cfg c).mark = s.mark := rfl
@[simp] theorem State.raiseError_program (c : ErrCode) : (s.raiseError cfg c).program = s.program := rfl
@[simp] theorem State.raiseError_readings (c : ErrCode) : (s.raiseError cfg c).readings = s.readings := rfl
@[simp] theorem State.raiseError_turns (c : ErrCode) : (s.raiseError cfg c).turns = s.turns := rfl
@[simp] theorem State.raiseError_draws (c : ErrCode) : (s.raiseError cfg c).draws = s.draws := rfl
@[simp] theorem State.raiseError_frees (c : ErrCode) : (s.raiseError cfg c).frees = s.frees + 1 := rfl
@[simp] theorem State.raiseError_resets (c : ErrCode) : (s.raiseError cfg c).resets = s.resets := rfl

/-! `loadKey` (41_key.md R75). -/

@[simp] theorem State.loadKey_busy : (s.loadKey cfg).busy = false := rfl
@[simp] theorem State.loadKey_done : (s.loadKey cfg).done = true := rfl
@[simp] theorem State.loadKey_err : (s.loadKey cfg).err = false := rfl
@[simp] theorem State.loadKey_keyValid : (s.loadKey cfg).keyValid = true := rfl
@[simp] theorem State.loadKey_ovr : (s.loadKey cfg).ovr = s.ovr := rfl
@[simp] theorem State.loadKey_errcode : (s.loadKey cfg).errcode = 0 := rfl
@[simp] theorem State.loadKey_pend : (s.loadKey cfg).pend = 0 := rfl
@[simp] theorem State.loadKey_len : (s.loadKey cfg).len = s.len := rfl
@[simp] theorem State.loadKey_keyin : (s.loadKey cfg).keyin = s.keyin := rfl
@[simp] theorem State.loadKey_key : (s.loadKey cfg).key = s.keyin := rfl
@[simp] theorem State.loadKey_khash : (s.loadKey cfg).khash = cfg.keyHash64 s.keyin := rfl
@[simp] theorem State.loadKey_off : (s.loadKey cfg).off = s.off := rfl
@[simp] theorem State.loadKey_mem : (s.loadKey cfg).mem = s.mem := rfl
@[simp] theorem State.loadKey_mark : (s.loadKey cfg).mark = s.mark := rfl
@[simp] theorem State.loadKey_program : (s.loadKey cfg).program = s.program := rfl
@[simp] theorem State.loadKey_readings : (s.loadKey cfg).readings = s.readings := rfl
@[simp] theorem State.loadKey_turns : (s.loadKey cfg).turns = s.turns := rfl
@[simp] theorem State.loadKey_draws : (s.loadKey cfg).draws = s.draws := rfl
@[simp] theorem State.loadKey_frees : (s.loadKey cfg).frees = s.frees := rfl
@[simp] theorem State.loadKey_resets : (s.loadKey cfg).resets = s.resets := rfl

/-! `issue` (10_state.md R21). -/

@[simp] theorem State.issue_busy (w : Word) : (s.issue w).busy = true := rfl
@[simp] theorem State.issue_done (w : Word) : (s.issue w).done = false := rfl
@[simp] theorem State.issue_err (w : Word) : (s.issue w).err = false := rfl
@[simp] theorem State.issue_keyValid (w : Word) : (s.issue w).keyValid = s.keyValid := rfl
@[simp] theorem State.issue_ovr (w : Word) : (s.issue w).ovr = false := rfl
@[simp] theorem State.issue_errcode (w : Word) : (s.issue w).errcode = 0 := rfl
@[simp] theorem State.issue_pend (w : Word) : (s.issue w).pend = w := rfl
@[simp] theorem State.issue_len (w : Word) : (s.issue w).len = s.len := rfl
@[simp] theorem State.issue_keyin (w : Word) : (s.issue w).keyin = s.keyin := rfl
@[simp] theorem State.issue_key (w : Word) : (s.issue w).key = s.key := rfl
@[simp] theorem State.issue_khash (w : Word) : (s.issue w).khash = s.khash := rfl
@[simp] theorem State.issue_off (w : Word) : (s.issue w).off = s.off := rfl
@[simp] theorem State.issue_mem (w : Word) : (s.issue w).mem = s.mem := rfl
@[simp] theorem State.issue_mark (w : Word) : (s.issue w).mark = s.mark := rfl
@[simp] theorem State.issue_program (w : Word) : (s.issue w).program = s.program := rfl
@[simp] theorem State.issue_readings (w : Word) : (s.issue w).readings = s.readings := rfl
@[simp] theorem State.issue_turns (w : Word) : (s.issue w).turns = [] := rfl
@[simp] theorem State.issue_draws (w : Word) : (s.issue w).draws = s.draws := rfl
@[simp] theorem State.issue_frees (w : Word) : (s.issue w).frees = s.frees := rfl
@[simp] theorem State.issue_resets (w : Word) : (s.issue w).resets = s.resets := rfl

end Sys2Proof.Machine
end

