-- ==== Sys2Proof/Laws/Host.lean ====
section
/-! SUPPORT. What a host access and a move of the host can do, said once: nothing but the effects of
10_state.md R21, R28, R29, R31 and the BUF window (20_memory.md R53), the mark (70_reset_and_hazards.md R157) and what
the host has read. -/

namespace Sys2Proof.Machine

variable (cfg : Config) (s : State)

/-- The effect of a permitted access: an accepted CMD write, a LEN, KEYIN or BUF write, or none. -/
theorem State.writeEffect_cases (a : HostAccess) :
    (∃ v, a = .write32 0x000 v ∧ s.writeEffect cfg a = s.accept v) ∨
    (∃ v, a = .write32 0x008 v ∧ s.writeEffect cfg a = s.setLen v) ∨
    (∃ x v w, a = .write32 x v ∧ targetOf cfg x = .keyin w ∧
      s.writeEffect cfg a = s.setKeyin (setFileWord s.keyin w v)) ∨
    (∃ x v j, a = .write8 x v ∧ targetOf cfg x = .buf j ∧ s.writeEffect cfg a = s.setBufByte j v) ∨
    (∃ x v j, a = .write32 x v ∧ targetOf cfg x = .buf j ∧ s.writeEffect cfg a = s.setBufWord j v) ∨
    s.writeEffect cfg a = s := by
  have cmd : ∀ x, targetOf cfg x = .cmd → x = 0 := by
    intro x h
    simp only [targetOf] at h
    split_ifs at h
    assumption
  have len : ∀ x, targetOf cfg x = .len → x = 8 := by
    intro x h
    simp only [targetOf] at h
    split_ifs at h
    assumption
  cases a with
  | write8 x v =>
    simp only [State.writeEffect, State.write8]
    split
    · next j h => exact .inr (.inr (.inr (.inl ⟨x, v, j, rfl, h, rfl⟩)))
    all_goals simp
  | write32 x v =>
    simp only [State.writeEffect, State.write32]
    split
    · next h => exact .inl ⟨v, by rw [cmd x h], rfl⟩
    · next h => exact .inr (.inl ⟨v, by rw [len x h], rfl⟩)
    · next w h => exact .inr (.inr (.inl ⟨x, v, w, rfl, h, rfl⟩))
    · next j h => exact .inr (.inr (.inr (.inr (.inl ⟨x, v, j, rfl, h, rfl⟩))))
    all_goals simp
  | read8 x => simp [State.writeEffect]
  | read16 x => simp [State.writeEffect]
  | read32 x => simp [State.writeEffect]
  | write16 x v => simp [State.writeEffect]
  | readOther w x => simp [State.writeEffect]
  | writeOther w x v => simp [State.writeEffect]

/-- The effect of a violating access: OVR, or none. -/
theorem State.violationEffect_cases (a : HostAccess) :
    (∃ x v, a = .write32 x v ∧ s.busy = true ∧ targetOf cfg x = .cmd ∧ s.violationEffect cfg a = s.overrun) ∨
    s.violationEffect cfg a = s := by
  cases a with
  | write32 x v =>
    simp only [State.violationEffect]
    split
    · next h => exact .inl ⟨x, v, rfl, h.1, h.2, rfl⟩
    · exact .inr rfl
  | _ => exact .inr rfl

/-- A violating access reads a number of its own width. -/
theorem State.violationValue_lt (a : HostAccess) : s.violationValue cfg a < 2 ^ a.kind.bits := by
  simp only [State.violationValue]
  split
  · exact Nat.two_pow_pos _
  · exact Nat.mod_lt _ (Nat.two_pow_pos _)

/-- A permitted read reads a number of its own width. -/
theorem State.readValue_lt (a : HostAccess) (h : s.permits cfg a = true) :
    (s.readValue cfg a).toNat < 2 ^ a.kind.bits := by
  cases a with
  | read8 x =>
    simp only [State.readValue, HostAccess.kind, AccessKind.bits, BitVec.toNat_setWidth]
    exact Nat.lt_of_le_of_lt (Nat.mod_le _ _) (BitVec.isLt _)
  | read32 x => exact BitVec.isLt _
  | _ => exact Nat.two_pow_pos _

/-- An access of a width other than 8, 16 and 32 bits is never permitted. -/
theorem State.permits_otherWidth (a : HostAccess) (h : ∃ w, a.kind = .readOther w ∨ a.kind = .writeOther w) :
    s.permits cfg a = false := by
  obtain ⟨w, h⟩ := h
  cases a <;> simp [HostAccess.kind] at h <;> rfl

theorem State.record_eq (a : HostAccess) (v : Nat) :
    s.record a v = s ∨ s.record a v = s.addReading { kind := a.kind, offset := a.offset, value := v } := by
  simp only [State.record]
  split
  · exact .inr rfl
  · exact .inl rfl

/-- A property of states that no reading, mark, free value, OVR or write effect destroys is kept by every access. -/
theorem State.hostAccess_induct (P : State → Prop) (a : HostAccess)
    (reading : ∀ (t : State) (r : Reading), P t → P (t.addReading r)) (mark : ∀ (t : State) (v : Violation), P t → P (t.setMark v))
    (free : ∀ t : State, P t → P t.useFree) (violation : s.permits cfg a = false → P (s.violationEffect cfg a))
    (effect : s.permits cfg a = true → P (s.writeEffect cfg a)) : P (s.hostAccess cfg a) := by
  have recorded : ∀ (t : State) (v : Nat), P t → P (t.record a v) := by
    intro t v ht
    rcases t.record_eq a v with h | h <;> rw [h]
    · exact ht
    · exact reading t _ ht
  simp only [State.hostAccess]
  split
  · next h => exact recorded _ _ (effect h)
  · next h => exact free _ (recorded _ _ (mark _ _ (violation (by simpa using h))))

/-- A move of the host is at most one access, with a change of the program before and after it. -/
theorem State.hostStep_cases :
    s.hostStep cfg = s ∨ ∃ a p p', s.hostStep cfg = ((s.setProgram p).hostAccess cfg a).setProgram p' ∨
      s.hostStep cfg = (s.setProgram p).hostAccess cfg a := by
  simp only [State.hostStep]
  split
  · exact .inl rfl
  · next a rest _ => exact .inr ⟨a, rest, rest, .inr rfl⟩
  · next rest h =>
    have hs : s.setProgram s.program = s := rfl
    refine .inr ⟨.read32 0x004, s.program, rest, ?_⟩
    rw [hs]
    split
    · exact .inr rfl
    · exact .inl rfl
  · exact .inr ⟨.read32 0x008, s.program, _, .inl rfl⟩

/-- A property of states that no change of the program and no access destroys is kept by every move of the host. -/
theorem State.hostStep_induct (P : State → Prop) (hs : P s) (program : ∀ (t : State) (p : List HostOp), P t → P (t.setProgram p))
    (access : ∀ (t : State) (a : HostAccess), P t → P (t.hostAccess cfg a)) : P (s.hostStep cfg) := by
  rcases s.hostStep_cases cfg with h | ⟨a, p, p', h | h⟩ <;> rw [h]
  · exact hs
  · exact program _ _ (access _ _ (program _ _ hs))
  · exact access _ _ (program _ _ hs)

end Sys2Proof.Machine
end

