-- ==== Sys2Proof/Laws/Lanes.lean ====
section
/-! SUPPORT. The order of a pass visits each position 0..m−1 exactly once, whatever the partition into lanes and
whatever their interleaving (44_byte_mixer.md R113, R114). -/

namespace Sys2Proof.Machine

/-- The positions a lane has left. -/
def Lane.positions (l : Lane) : List Nat := List.range' l.pos l.left

/-- The positions a list of lanes has left. -/
def lanePositions (ls : List Lane) : List Nat := ls.flatMap Lane.positions

theorem lanePositions_cons (l : Lane) (ls : List Lane) :
    lanePositions (l :: ls) = l.positions ++ lanePositions ls := by simp [lanePositions]

theorem Lane.positions_of_left {l : Lane} (h : l.left ≠ 0) :
    l.positions = l.pos :: ({ pos := l.pos + 1, left := l.left - 1 } : Lane).positions := by
  obtain ⟨n, hn⟩ := Nat.exists_eq_succ_of_ne_zero h
  simp [Lane.positions, hn, List.range'_succ]

theorem Lane.positions_empty {l : Lane} (h : l.left = 0) : l.positions = [] := by simp [Lane.positions, h]

/-- A lane's advance takes one of the positions left, and none is left exactly when no lane advances. -/
theorem advanceLane_spec (k : Nat) (ls : List Lane) :
    match advanceLane k ls with
    | some p => (lanePositions ls).Perm (p.1 :: lanePositions p.2)
    | none => lanePositions ls = [] := by
  induction ls generalizing k with
  | nil => cases k <;> simp [advanceLane, lanePositions]
  | cons l ls ih =>
    have here : l.left ≠ 0 → (lanePositions (l :: ls)).Perm
        (l.pos :: lanePositions ({ pos := l.pos + 1, left := l.left - 1 } :: ls)) := fun h => by
      simp [lanePositions_cons, Lane.positions_of_left h]
    have there : ∀ (x : Nat) (ls' : List Lane), (lanePositions ls).Perm (x :: lanePositions ls') →
        (lanePositions (l :: ls)).Perm (x :: lanePositions (l :: ls')) := fun x ls' h => by
      rw [lanePositions_cons, lanePositions_cons]
      exact (h.append_left _).trans List.perm_middle
    cases k with
    | zero =>
      simp only [advanceLane]
      by_cases h : l.left = 0
      · have := ih 0
        rw [if_pos h]
        cases hp : advanceLane 0 ls with
        | none => simpa [hp, lanePositions_cons, Lane.positions_empty h] using this
        | some p => simp only [hp] at this; exact there _ _ this
      · rw [if_neg h]
        exact here h
    | succ k =>
      have := ih k
      simp only [advanceLane]
      cases hp : advanceLane k ls with
      | some p => simp only [hp] at this; exact there _ _ this
      | none =>
        by_cases h : l.left = 0
        · simpa [hp, h, lanePositions_cons, Lane.positions_empty h] using this
        · simpa [h] using here h

theorem laneOrder_perm (pick : Nat → Nat) (fuel : Nat) (ls : List Lane) (h : (lanePositions ls).length = fuel) :
    (laneOrder pick fuel ls).Perm (lanePositions ls) := by
  induction fuel generalizing ls with
  | zero => simp [laneOrder, List.length_eq_zero_iff.1 h]
  | succ n ih =>
    have spec := advanceLane_spec (pick n) ls
    simp only [laneOrder]
    cases hp : advanceLane (pick n) ls with
    | none => simp only [hp] at spec; simp [spec] at h
    | some p =>
      simp only [hp] at spec
      refine (List.Perm.cons _ (ih p.2 ?_)).trans spec.symm
      have := spec.length_eq
      simp only [List.length_cons] at this
      omega

theorem lanePositions_laneRanges (cut : Nat → Nat) (k start m : Nat) :
    lanePositions (laneRanges cut k start m) = List.range' start m := by
  induction k generalizing start m with
  | zero => simp [laneRanges, lanePositions, Lane.positions]
  | succ k ih =>
    simp only [laneRanges, lanePositions_cons, ih, Lane.positions]
    rw [List.range'_append_1, Nat.add_sub_cancel' (Nat.min_le_right _ _)]

/-- Every order of a pass is a rearrangement of the ascending one (R114). -/
theorem passOrder_perm (cfg : Config) (index : Nat) (par : Bool) (m : Nat) :
    (passOrder cfg index par m).Perm (List.range m) := by
  unfold passOrder
  split
  · refine (laneOrder_perm _ _ _ ?_).trans ?_
    · simp [lanePositions_laneRanges]
    · rw [lanePositions_laneRanges, List.range_eq_range']
  · exact .refl _

theorem passOrder_nodup (cfg : Config) (index : Nat) (par : Bool) (m : Nat) :
    (passOrder cfg index par m).Nodup :=
  (passOrder_perm cfg index par m).nodup_iff.2 List.nodup_range

@[simp] theorem mem_passOrder (cfg : Config) (index : Nat) (par : Bool) (m i : Nat) :
    i ∈ passOrder cfg index par m ↔ i < m := by
  rw [(passOrder_perm cfg index par m).mem_iff, List.mem_range]

/-- MIX_LANES lanes (00_scope.md R9). -/
theorem laneRanges_length (cut : Nat → Nat) (k start m : Nat) : (laneRanges cut k start m).length = k + 1 := by
  induction k generalizing start m with
  | zero => rfl
  | succ k ih => simp [laneRanges, ih]

end Sys2Proof.Machine
end

