-- ==== Sys2Proof/Laws/Memory.lean ====
section
/-! SUPPORT. The buffer memory's laws: read after write, what fills and passes leave, and that every operation keeps
the canonical form (00_scope.md R15, 20_memory.md R44). -/

namespace Sys2Proof.Machine

variable (free : Nat → Byte) (m : Memory)

@[simp] theorem Memory.get_nil (j : Nat) : Memory.get [] j = none := rfl

theorem Memory.get_put (j : Nat) (v : Byte) (k : Nat) :
    (m.put j v).get k = if j = k then some v else m.get k := by
  induction m with
  | nil => simp [Memory.put, Memory.get, Memory.unlisted]
  | cons c m ih =>
    obtain ⟨a, b⟩ := c
    simp only [Memory.put]
    split_ifs with h₁ h₂ h₃ h₃ h₃ <;> simp_all [Memory.get]
    intro h
    omega

@[simp] theorem Memory.byte_put_same (j : Nat) (v : Byte) : (m.put j v).byte free j = v := by
  simp [Memory.byte, Memory.get_put]

theorem Memory.byte_put (j : Nat) (v : Byte) (k : Nat) :
    (m.put j v).byte free k = if j = k then v else m.byte free k := by
  simp only [Memory.byte, Memory.get_put]
  split_ifs <;> rfl

@[simp] theorem Memory.byte_put_other {j k : Nat} (v : Byte) (h : j ≠ k) :
    (m.put j v).byte free k = m.byte free k := by
  simp [Memory.byte_put, h]

theorem Memory.mem_put {j : Nat} {v : Byte} {c : Host.Cell} (h : c ∈ m.put j v) : c = (j, v) ∨ c ∈ m := by
  induction m with
  | nil => simpa [Memory.put] using h
  | cons d m ih =>
    simp only [Memory.put] at h
    split_ifs at h <;> simp only [List.mem_cons] at h ⊢ <;> rcases h with h | h <;> try tauto

/-- A write keeps the canonical form. -/
theorem Memory.put_wf {m : Memory} (h : m.wf) (j : Nat) (v : Byte) : (m.put j v).wf := by
  induction m with
  | nil => simp [Memory.put, Memory.wf]
  | cons c m ih =>
    obtain ⟨a, b⟩ := c
    have hm := (List.pairwise_cons.1 h).2
    have ha := (List.pairwise_cons.1 h).1
    simp only [Memory.put]
    split_ifs with h₁ h₂
    · refine List.pairwise_cons.2 ⟨fun d hd => ?_, h⟩
      rcases List.mem_cons.1 hd with rfl | hd
      · exact h₁
      · exact h₁.trans (ha d hd)
    · exact List.pairwise_cons.2 ⟨fun d hd => h₂ ▸ ha d hd, hm⟩
    · refine List.pairwise_cons.2 ⟨fun d hd => ?_, ih hm⟩
      rcases Memory.mem_put m hd with rfl | hd
      · show a < j
        omega
      · exact ha d hd

/-- Two memories of canonical form that list the same bytes are the same data. -/
theorem Memory.ext_of_get {m m' : Memory} (h : m.wf) (h' : m'.wf) (hg : ∀ j, m.get j = m'.get j) : m = m' := by
  have below : ∀ {a : Nat} {m : Memory}, (∀ d ∈ m, a < d.1) → m.get a = none := by
    intro a m
    induction m with
    | nil => intro _; rfl
    | cons c m ih =>
      intro hd
      have := hd c (by simp)
      simp only [Memory.get]
      rw [if_neg (by omega), ih fun d hm => hd d (by simp [hm])]
  induction m generalizing m' with
  | nil =>
    cases m' with
    | nil => rfl
    | cons c m' => simpa [Memory.get, Memory.unlisted] using hg c.1
  | cons c m ih =>
    cases m' with
    | nil => simpa [Memory.get, Memory.unlisted] using hg c.1
    | cons c' m' =>
      obtain ⟨a, b⟩ := c
      obtain ⟨a', b'⟩ := c'
      obtain ⟨ha, hm⟩ := List.pairwise_cons.1 h
      obtain ⟨ha', hm'⟩ := List.pairwise_cons.1 h'
      have haa : a = a' := by
        rcases Nat.lt_trichotomy a a' with hlt | heq | hlt
        · have h₁ := hg a
          rw [below (m := (a', b') :: m') (a := a) ?_] at h₁
          · simp [Memory.get] at h₁
          · intro d hd
            rcases List.mem_cons.1 hd with rfl | hd
            · exact hlt
            · exact hlt.trans (ha' d hd)
        · exact heq
        · have h₁ := hg a'
          rw [below (m := (a, b) :: m) (a := a') ?_] at h₁
          · simp [Memory.get] at h₁
          · intro d hd
            rcases List.mem_cons.1 hd with rfl | hd
            · exact hlt
            · exact hlt.trans (ha d hd)
      subst haa
      have hb : b = b' := by simpa [Memory.get] using hg a
      subst hb
      rw [ih hm hm' fun j => ?_]
      by_cases hj : a = j
      · subst hj
        rw [below ha, below ha']
      · simpa [Memory.get, hj] using hg j

theorem Memory.fill_succ (start n : Nat) (g : Nat → Byte) :
    m.fill start (n + 1) g = (m.fill start n g).put (start + n) (g n) := by
  simp [Memory.fill, List.range_succ]

@[simp] theorem Memory.fill_zero (start : Nat) (g : Nat → Byte) : m.fill start 0 g = m := rfl

theorem Memory.get_fill (start n : Nat) (g : Nat → Byte) (k : Nat) :
    (m.fill start n g).get k = if start ≤ k ∧ k < start + n then some (g (k - start)) else m.get k := by
  induction n with
  | zero =>
    simp only [Memory.fill_zero, Nat.add_zero]
    rw [if_neg (by omega)]
  | succ n ih =>
    rw [Memory.fill_succ, Memory.get_put, ih]
    by_cases h : start + n = k
    · subst h
      rw [if_pos rfl, if_pos (by omega)]
      congr 2
      omega
    · rw [if_neg h]
      by_cases h' : start ≤ k ∧ k < start + n
      · rw [if_pos h', if_pos (by omega)]
      · rw [if_neg h', if_neg (by omega)]

/-- What a fill leaves: g inside its range, the byte before it elsewhere. -/
theorem Memory.byte_fill (start n : Nat) (g : Nat → Byte) (k : Nat) :
    (m.fill start n g).byte free k = if start ≤ k ∧ k < start + n then g (k - start) else m.byte free k := by
  simp only [Memory.byte, Memory.get_fill]
  split_ifs <;> rfl

theorem Memory.fill_wf {m : Memory} (h : m.wf) (start n : Nat) (g : Nat → Byte) : (m.fill start n g).wf := by
  induction n with
  | zero => exact h
  | succ n ih => rw [Memory.fill_succ]; exact Memory.put_wf ih _ _

theorem Memory.mem_fill {start n : Nat} {g : Nat → Byte} {c : Host.Cell} (h : c ∈ m.fill start n g) :
    (start ≤ c.1 ∧ c.1 < start + n) ∨ c ∈ m := by
  induction n with
  | zero => exact .inr h
  | succ n ih =>
    rw [Memory.fill_succ] at h
    rcases Memory.mem_put _ h with rfl | h
    · exact .inl ⟨by simp, by simp⟩
    · rcases ih h with h | h
      · exact .inl ⟨h.1, by omega⟩
      · exact .inr h

@[simp] theorem Memory.pass_nil (f : Nat → Byte → Byte) : m.pass free f [] = m := rfl

theorem Memory.pass_cons (f : Nat → Byte → Byte) (i : Nat) (is : List Nat) :
    m.pass free f (i :: is) = (m.put i (f i (m.byte free i))).pass free f is := rfl

/-- What a pass over distinct positions leaves: f of the old byte at each of them, every other byte as it was
(44_byte_mixer.md R111, R114). -/
theorem Memory.get_pass (f : Nat → Byte → Byte) {is : List Nat} (nd : is.Nodup) (k : Nat) :
    (m.pass free f is).get k = if k ∈ is then some (f k (m.byte free k)) else m.get k := by
  induction is generalizing m with
  | nil => simp
  | cons i is ih =>
    obtain ⟨hi, nd⟩ := List.nodup_cons.1 nd
    rw [Memory.pass_cons, ih _ nd]
    by_cases h : k = i
    · subst h
      simp [hi, Memory.get_put]
    · have h' : i ≠ k := fun e => h e.symm
      simp [h, h', Memory.get_put]

theorem Memory.byte_pass (f : Nat → Byte → Byte) {is : List Nat} (nd : is.Nodup) (k : Nat) :
    (m.pass free f is).byte free k = if k ∈ is then f k (m.byte free k) else m.byte free k := by
  simp only [Memory.byte, Memory.get_pass free m f nd]
  split_ifs <;> rfl

theorem Memory.pass_wf {m : Memory} (h : m.wf) (f : Nat → Byte → Byte) (is : List Nat) :
    (m.pass free f is).wf := by
  induction is generalizing m with
  | nil => exact h
  | cons i is ih => exact ih (Memory.put_wf h _ _)

theorem Memory.mem_pass {f : Nat → Byte → Byte} {is : List Nat} {c : Host.Cell} (h : c ∈ m.pass free f is) :
    c.1 ∈ is ∨ c ∈ m := by
  induction is generalizing m with
  | nil => exact .inr h
  | cons i is ih =>
    rcases ih _ h with h | h
    · exact .inl (by simp [h])
    · rcases Memory.mem_put _ h with rfl | h
      · exact .inl (by simp)
      · exact .inr h

end Sys2Proof.Machine
end

