-- ==== Sys2Proof/Laws/Operands.lean ====
section
/-! SUPPORT. The laws of the datapath's primitives (00_scope.md R12 to R14, 43_offset_embedder.md R94). -/

namespace Sys2Proof.Machine

theorem rotationAmount_lt (x co : Byte) : rotationAmount x co < 8 := Nat.mod_lt _ (by decide)

theorem rotr8_rotl8_table : ∀ x : Byte, ∀ r : Fin 8, rotr8 (rotl8 x r) r = x := by decide +kernel

/-- "rotr8(rotl8(x, r), r) = x" (R14). -/
theorem rotr8_rotl8 (x : Byte) {r : Nat} (h : r < 8) : rotr8 (rotl8 x r) r = x := rotr8_rotl8_table x ⟨r, h⟩

theorem popcount8_rotl8_table : ∀ x : Byte, ∀ r : Fin 8, popcount8 (rotl8 x r) = popcount8 x := by
  decide +kernel

/-- "popcount8(rotl8(x, r)) = popcount8(x)" (R14). -/
theorem popcount8_rotl8 (x : Byte) {r : Nat} (h : r < 8) : popcount8 (rotl8 x r) = popcount8 x :=
  popcount8_rotl8_table x ⟨r, h⟩

/-- The key-hash bytes are the bit-slices KHASH[8k+7:8k] for k in 0..7 (R94). -/
theorem hashByte_eq (h : BitVec 64) (k : Nat) : hashByte h k = BitVec.ofNat 8 (h.toNat / 256 ^ k % 256) := by
  induction k generalizing h with
  | zero => simp [hashByte]
  | succ k ih =>
    have hlt : (BitVec.ofNat 64 (h.toNat / 256)).toNat = h.toNat / 256 := by
      have := h.isLt
      simp only [BitVec.toNat_ofNat]
      omega
    rw [hashByte, ih, hlt, Nat.div_div_eq_div_mul, ← Nat.pow_succ']

theorem offByte_offsetsOf (g : Nat → Byte) {k : Nat} (h : k < 8) : offByte (offsetsOf g) k = g k := by
  match k, h with
  | 0, _ | 1, _ | 2, _ | 3, _ | 4, _ | 5, _ | 6, _ | 7, _ => rfl

theorem offsetIndex_lt (key : Vector Byte 16) (i : Nat) : offsetIndex key i < 8 := Nat.mod_lt _ (by decide)

end Sys2Proof.Machine
end

