-- ==== Sys2Proof/Laws/PerInstr.lean ====
section
/-! SUPPORT. Statements about every command as syntax, one lemma per constructor of Instr. -/

namespace Sys2Proof.Laws.LegalEncoding

/-- A command is well formed, its word is one of the five legal words, and the word matches the command's row of the
opcode map (30_encoding.md R68). -/
def Statement (i : Instr) : Prop :=
  i.wellFormed = true ∧ encode i ∈ legalWords ∧ encode i &&& i.matchMask.2 = i.matchMask.1

theorem loadkey : Statement .loadkey := by unfold Statement; decide

theorem encrypt (par : Bool) : Statement (.encrypt par) := by unfold Statement; cases par <;> decide

theorem decrypt (par : Bool) : Statement (.decrypt par) := by unfold Statement; cases par <;> decide

end Sys2Proof.Laws.LegalEncoding
end

