-- ==== Sys2Proof/Laws/Stages.lean ====
section
/-! SUPPORT. One lemma per stage that says what it leaves in the buffer, and that it keeps the buffer's form
(42_length_normalizer.md R86, 43_offset_embedder.md R95 and R96, 44_byte_mixer.md R109 to R114). -/

namespace Sys2Proof.Machine

variable (cfg : Config) (s : State)

@[simp] theorem State.bufByte_setBufByte (j : Nat) (v : Byte) (k : Nat) :
    (s.setBufByte j v).bufByte cfg k = if j = k then v else s.bufByte cfg k :=
  Memory.byte_put _ _ _ _ _

theorem markerPos_eq (n : Nat) : markerPos n = max 16 n := by
  simp only [markerPos, keyBytes]
  split <;> omega

theorem State.bufByte_normalize (n k : Nat) :
    (s.normalize cfg n).bufByte cfg k =
      if k = max 16 n then markerByte n
      else if n ≤ k ∧ k < 16 then cfg.draw (s.draws + (k - n)) else s.bufByte cfg k := by
  simp only [State.bufByte, State.normalize, Memory.byte_put, Memory.byte_fill, padCount, keyBytes, markerPos_eq]
  by_cases h : k = max 16 n
  · rw [if_pos h.symm, if_pos h]
  · rw [if_neg (fun e => h e.symm), if_neg h]
    by_cases h' : n ≤ k ∧ k < 16
    · rw [if_pos (by omega), if_pos h']
    · rw [if_neg (by omega), if_neg h']

theorem State.bufByte_mix (par : Bool) (m k : Nat) :
    (s.mix cfg par m).bufByte cfg k =
      if k < m then encByte (s.bufByte cfg k) (cryptoOffset s.key s.off k) else s.bufByte cfg k := by
  simp only [State.bufByte, State.mix, Memory.byte_pass _ _ _ (passOrder_nodup _ _ _ _), mem_passOrder]

theorem State.bufByte_unmix (par : Bool) (m k : Nat) :
    (s.unmix cfg par m).bufByte cfg k =
      if k < m then decByte (s.bufByte cfg k) (cryptoOffset s.key s.off k) else s.bufByte cfg k := by
  simp only [State.bufByte, State.unmix, Memory.byte_pass _ _ _ (passOrder_nodup _ _ _ _), mem_passOrder]

theorem State.bufByte_embed (m k : Nat) :
    (s.embed m).bufByte cfg k =
      if m ≤ k ∧ k < m + 8 then offByte s.off (k - m) + hashByte s.khash (k - m) else s.bufByte cfg k := by
  simp only [State.bufByte, State.embed, Memory.byte_fill]

@[simp] theorem State.bufByte_offsetGen (k : Nat) : (s.offsetGen cfg).bufByte cfg k = s.bufByte cfg k := rfl

@[simp] theorem State.bufByte_extract (m k : Nat) : (s.extract cfg m).bufByte cfg k = s.bufByte cfg k := rfl

@[simp] theorem State.bufByte_finish (c : ErrCode) (k : Nat) : (s.finish c).bufByte cfg k = s.bufByte cfg k := rfl

@[simp] theorem State.bufByte_releaseOff (k : Nat) : (s.releaseOff cfg).bufByte cfg k = s.bufByte cfg k := rfl

@[simp] theorem State.bufByte_setLen (v : Word) (k : Nat) : (s.setLen v).bufByte cfg k = s.bufByte cfg k := rfl

theorem State.bufByte_dropBytes (n' n k : Nat) :
    (s.dropBytes cfg n' n).bufByte cfg k =
      if n' ≤ k ∧ k < n then cfg.bufAfter s.frees k else s.bufByte cfg k := by
  simp only [State.bufByte, State.dropBytes, Memory.byte_fill]
  by_cases h : n' ≤ k ∧ k < n
  · rw [if_pos (by omega), if_pos h, Nat.add_sub_cancel' h.1]
  · rw [if_neg (by omega), if_neg h]

theorem State.dropBytes_wf {s : State} (h : s.mem.wf) (n' n : Nat) : (s.dropBytes cfg n' n).mem.wf := by
  simp only [State.dropBytes]
  exact Memory.fill_wf h _ _ _

theorem State.offByte_offsetGen {k : Nat} (h : k < 8) :
    offByte (s.offsetGen cfg).off k = cfg.draw (s.draws + k) := by
  rw [State.offsetGen_off, offByte_offsetsOf _ h]

theorem State.offByte_extract (m : Nat) {k : Nat} (h : k < 8) :
    offByte (s.extract cfg m).off k = s.bufByte cfg (m + k) - hashByte s.khash k :=
  offByte_offsetsOf _ h

/-- A pass does not depend on its order when the buffer has the canonical form (44_byte_mixer.md R114). -/
theorem State.mix_par {s : State} (h : s.mem.wf) (par : Bool) (m : Nat) : s.mix cfg par m = s.mix cfg false m := by
  have : (s.mix cfg par m).mem = (s.mix cfg false m).mem := by
    simp only [State.mix]
    apply Memory.ext_of_get (Memory.pass_wf _ h _ _) (Memory.pass_wf _ h _ _)
    intro j
    simp [Memory.get_pass _ _ _ (passOrder_nodup _ _ _ _)]
  show ({ s with mem := (s.mix cfg par m).mem } : State) = { s with mem := (s.mix cfg false m).mem }
  rw [this]

theorem State.unmix_par {s : State} (h : s.mem.wf) (par : Bool) (m : Nat) :
    s.unmix cfg par m = s.unmix cfg false m := by
  have : (s.unmix cfg par m).mem = (s.unmix cfg false m).mem := by
    simp only [State.unmix]
    apply Memory.ext_of_get (Memory.pass_wf _ h _ _) (Memory.pass_wf _ h _ _)
    intro j
    simp [Memory.get_pass _ _ _ (passOrder_nodup _ _ _ _)]
  show ({ s with mem := (s.unmix cfg par m).mem } : State) = { s with mem := (s.unmix cfg false m).mem }
  rw [this]

theorem State.normalize_wf {s : State} (h : s.mem.wf) (n : Nat) : (s.normalize cfg n).mem.wf := by
  simp only [State.normalize]
  exact Memory.put_wf (Memory.fill_wf h _ _ _) _ _

theorem State.embed_wf {s : State} (h : s.mem.wf) (m : Nat) : (s.embed m).mem.wf := by
  simp only [State.embed]
  exact Memory.fill_wf h _ _ _

theorem State.mix_wf {s : State} (h : s.mem.wf) (par : Bool) (m : Nat) : (s.mix cfg par m).mem.wf := by
  simp only [State.mix]
  exact Memory.pass_wf _ h _ _

theorem State.unmix_wf {s : State} (h : s.mem.wf) (par : Bool) (m : Nat) : (s.unmix cfg par m).mem.wf := by
  simp only [State.unmix]
  exact Memory.pass_wf _ h _ _

theorem State.setBufWord_wf {s : State} (h : s.mem.wf) (j : Nat) (v : Word) : (s.setBufWord j v).mem.wf := by
  simp only [State.setBufWord]
  exact Memory.fill_wf h _ _ _

theorem State.setBufByte_wf {s : State} (h : s.mem.wf) (j : Nat) (v : Byte) : (s.setBufByte j v).mem.wf :=
  Memory.put_wf h _ _

end Sys2Proof.Machine
end

