-- ==== Sys2Proof/Laws/Step.lean ====
section
/-! SUPPORT. What a step can do, said once (00_scope.md R6, R7, 10_state.md R40): the engine performs a command or
refuses an illegal word, or the host moves, or a reset arrives, or nothing happens. -/

namespace Sys2Proof.Machine

/-- Which agent moves in a state, and the state it moves in. -/
theorem step_cases {s t : State} (h : step s = .next t) :
    (∃ ts i, s.busy = true ∧ decode s.pend = .command i ∧ exec i (s.setTurns ts) = .next t) ∨
    (∃ ts r, s.busy = true ∧ decode s.pend = .rejected r ∧
      t = (s.setTurns ts).raiseError Config.chip .illegalCmd) ∨
    (∃ ts, t = (s.setTurns ts).hostStep Config.chip) ∨
    (∃ ts, t = (s.setTurns ts).applyReset Config.chip) ∨
    (∃ ts, t = s.setTurns ts) := by
  have engine : ∀ ts, s.busy = true → (s.setTurns ts).engineStep = .next t →
      (∃ ts i, s.busy = true ∧ decode s.pend = .command i ∧ exec i (s.setTurns ts) = .next t) ∨
      (∃ ts r, s.busy = true ∧ decode s.pend = .rejected r ∧
        t = (s.setTurns ts).raiseError Config.chip .illegalCmd) := by
    intro ts hb he
    simp only [State.engineStep, State.fetch] at he
    split at he
    · next i hd => exact .inl ⟨ts, i, hb, hd, he⟩
    · next r hd => exact .inr ⟨ts, r, hb, hd, by injection he with he; exact he.symm⟩
  simp only [step, State.move] at h
  split at h
  · next ht =>
    have hs : s.setTurns [] = s := by rw [← ht]; rfl
    split at h
    · next hb =>
      rcases engine [] hb (by rw [hs]; exact h) with h | h
      · exact .inl h
      · exact .inr (.inl h)
    · injection h with h
      exact .inr (.inr (.inl ⟨[], by rw [hs]; exact h.symm⟩))
  · next ts _ =>
    simp only [State.engineTurn] at h
    split at h
    · next hb =>
      rcases engine ts hb h with h | h
      · exact .inl h
      · exact .inr (.inl h)
    · injection h with h
      exact .inr (.inr (.inr (.inr ⟨ts, h.symm⟩)))
  · next ts _ =>
    injection h with h
    exact .inr (.inr (.inl ⟨ts, h.symm⟩))
  · next ts _ =>
    injection h with h
    exact .inr (.inr (.inr (.inl ⟨ts, h.symm⟩)))

end Sys2Proof.Machine
end

