-- ==== Sys2Proof/Tests/Slice0.lean ====
section
/-! SUPPORT. The model's own tests. Expected values are the vectors of 95_test_vectors.md or were worked out by hand from
the rule named; below them stand the witnesses: for each statement with hypotheses, a concrete state and operands that
meet them together. -/

namespace Sys2Proof.Tests

open Sys2Proof.Machine

/-! ## Syntax, well-formedness, decoding -/

theorem test_reserved_bits_are_ill_formed :
    ({ rsv := 1, par := false, op := 2 } : CommandFields).wellFormed = false ∧
    ({ rsv := 0x4000000, par := false, op := 2 } : CommandFields).wellFormed = false := by decide

theorem test_reserved_op_is_ill_formed :
    ({ rsv := 0, par := false, op := 0 } : CommandFields).wellFormed = false ∧
    ({ rsv := 0, par := true, op := 4 } : CommandFields).wellFormed = false ∧
    ({ rsv := 0, par := false, op := 15 } : CommandFields).wellFormed = false := by decide

theorem test_loadkey_with_par_is_ill_formed :
    ({ rsv := 0, par := true, op := 1 } : CommandFields).wellFormed = false := by decide

/-- 30_encoding.md R63, R68: bits [31:5] | PAR | OP, written out. -/
theorem test_written_words_decode :
    decode (0b000000000000000000000000000#27 ++ 0b0#1 ++ 0b0001#4) = .command .loadkey ∧
    decode (0b000000000000000000000000000#27 ++ 0b0#1 ++ 0b0010#4) = .command (.encrypt false) ∧
    decode (0b000000000000000000000000000#27 ++ 0b1#1 ++ 0b0010#4) = .command (.encrypt true) ∧
    decode (0b000000000000000000000000000#27 ++ 0b0#1 ++ 0b0011#4) = .command (.decrypt false) ∧
    decode (0b000000000000000000000000000#27 ++ 0b1#1 ++ 0b0011#4) = .command (.decrypt true) := by decide

/-- The words of V-X1 to V-X5. -/
theorem test_illegal_words_are_rejected :
    decode 0x00000000#32 = .rejected .reservedOp ∧ decode 0x00000004#32 = .rejected .reservedOp ∧
    decode 0x00000022#32 = .rejected .reservedBits ∧ decode 0x80000002#32 = .rejected .reservedBits ∧
    decode 0x00000011#32 = .rejected .loadkeyPar := by decide

/-- 20_memory.md R47: the byte of lowest address is the least significant; 30_encoding.md R63: no other length. -/
theorem test_bytes_decode_little_endian :
    decodeBytes [0x12, 0x00, 0x00, 0x00] = .command (.encrypt true) ∧
    decodeBytes [0x00, 0x00, 0x00, 0x12] = .rejected .reservedBits ∧
    decodeBytes [0x01] = .rejected .notOneWord := by decide

theorem test_table_words :
    decodeTableWord 32 0x00000001 = some .loadkey ∧ decodeTableWord 32 0x00000012 = some (.encrypt true) ∧
    decodeTableWord 32 0x00000003 = some (.decrypt false) ∧ decodeTableWord 32 0x00000005 = none := by decide

/-! ## A chip for the vectors -/

/-- The settings of 95_test_vectors.md: BUF_CAP = 4096, KEY_HASH64 = H, draws AA for the 14 padding bytes of V-E2 and
then 01 to 08. Three lanes. -/
def vectorChip : Config :=
  { capExtra := ⟨4071, by decide⟩, lanesExtra := 2
    keyHash64 := fun _ => 0x0123456789ABCDEF#64
    hash128 := fun _ => Vector.replicate 16 0
    draw := fun n => if n < 14 then 0xAA else BitVec.ofNat 8 (n - 13)
    laneCut := fun _ k => 3 + k, lanePick := fun _ t => t
    bufReset := fun _ _ => 0x77, khashReset := fun _ => 0, offReset := fun _ => Vector.replicate 8 0
    offAfter := fun _ => Vector.replicate 8 0, bufAfter := fun _ _ => 0x99, violationRead := fun _ => 0xDEADBEEFCAFE }

/-- The key K of the vectors. -/
def keyK : Vector Byte 16 := #v[16, 216, 58, 6, 182, 126, 102, 212, 190, 60, 177, 6, 172, 106, 62, 46]

/-- A plain idle state: every register 0, nothing listed. -/
def idle : State := State.resetFor vectorChip

/-- K loaded, the bytes `bs` in BUF from position 0, LEN = n. -/
def loaded (n : Word) (bs : List Byte) : State :=
  { idle with
    key := keyK, keyValid := true, khash := 0x0123456789ABCDEF#64, done := true, len := n
    mem := bs.zipIdx.map fun p => (p.2, p.1) }

/-- BUF[0..n). -/
def bytes (s : State) (n : Nat) : List Byte := (List.range n).map (s.bufByte vectorChip)

/-! ## The datapath -/

/-- The primitives' table (section 2.1). -/
theorem test_primitives :
    [popcount8 0x00, popcount8 0xFF, popcount8 0xB5, popcount8 0x0B] = [0, 8, 5, 3] ∧
    rotl8 0xB5 7 = 0xDA ∧ rotr8 0xDA 7 = 0xB5 ∧ rotl8 0x81 1 = 0x03 ∧ rotr8 0x81 1 = 0xC0 ∧ rotl8 0x81 0 = 0x81 := by
  decide

/-- Rows of V-B1 and V-B2. -/
theorem test_byte_transforms :
    encByte 0xAA 0x0B = 0xDA ∧ encByte 0xFF 0x01 = 0x00 ∧ encByte 0xFE 0x03 = 0x04 ∧ encByte 0x3C 0x81 = 0xDB ∧
    decByte 0xDA 0x0B = 0xAA ∧ decByte 0x7F 0x01 = 0xFD ∧ decByte 0x30 0x03 = 0x00 := by decide

/-- Rows of V-B3, the index-width corner among them. -/
theorem test_crypto_offsets :
    [0, 3, 18, 255, 256, 300, 2304].map (fun i => (offsetIndex keyK i, cryptoOffset keyK #v[1, 2, 3, 4, 5, 6, 7, 8] i)) =
      [(6, 0x17), (1, 0x0B), (2, 0x4F), (1, 0x2F), (2, 0x13), (3, 0xDC), (6, 0x17)] := by decide

/-- V-S4. -/
theorem test_hash_bytes :
    (List.range 8).map (hashByte 0x0123456789ABCDEF#64) = [0xEF, 0xCD, 0xAB, 0x89, 0x67, 0x45, 0x23, 0x01] := by decide

/-! ## The commands -/

/-- V-K1: the key, STATUS, and the four KEY registers. -/
theorem test_loadkey :
    let s := { idle with keyin := keyK }.accept 0x00000001
    (s.loadKey vectorChip).key = keyK ∧ (s.loadKey vectorChip).statusWord = 0x0000000A ∧
    (List.range 4).map (fileWord (s.loadKey vectorChip).key) =
      [0x063AD810, 0xD4667EB6, 0x06B13CBE, 0x2E3E6AAC] := by decide

/-- V-E2, sequential. -/
theorem test_encrypt_short :
    let t := ((loaded 2 [0x00, 0x01]).accept 0x00000002).encrypt vectorChip false
    bytes t 25 = [0x17, 0xE2, 0xF9, 0xDA, 0xD9, 0x13, 0x1B, 0x8B, 0xDD, 0x0F, 0xD9, 0xEB, 0x66, 0x13, 0xF3, 0xEE, 0x8A,
      0xF0, 0xCF, 0xAE, 0x8D, 0x6C, 0x4B, 0x2A, 0x09] ∧
    t.len = 25 ∧ t.statusWord = 0x0000000A ∧ t.draws = 22 := by decide

/-- V-E6, in parallel mode: three lanes, interleaved. The offsets 01 to 08 are draws 14 to 21 of the chip. -/
theorem test_encrypt_long_parallel :
    let s := { loaded 17 ((List.range 17).map (BitVec.ofNat 8)) with draws := 14 }
    let t := (s.accept 0x00000012).encrypt vectorChip true
    bytes t 26 = [0x17, 0xE2, 0xCF, 0x1C, 0x07, 0xC8, 0x77, 0xE8, 0xAB, 0xA7, 0xF1, 0x7C, 0x64, 0xC4, 0x18, 0x53, 0x0E,
      0xDF, 0xF0, 0xCF, 0xAE, 0x8D, 0x6C, 0x4B, 0x2A, 0x09] ∧
    t.len = 26 ∧ t.statusWord = 0x0000000A := by decide

/-- V-E6's bytes decrypted, in parallel mode: LEN and BUF[0..17). -/
theorem test_decrypt :
    let s := loaded 26 [0x17, 0xE2, 0xCF, 0x1C, 0x07, 0xC8, 0x77, 0xE8, 0xAB, 0xA7, 0xF1, 0x7C, 0x64, 0xC4, 0x18, 0x53,
      0x0E, 0xDF, 0xF0, 0xCF, 0xAE, 0x8D, 0x6C, 0x4B, 0x2A, 0x09]
    let t := (s.accept 0x00000013).decrypt vectorChip true
    t.len = 17 ∧ t.statusWord = 0x0000000A ∧ bytes t 17 = (List.range 17).map (BitVec.ofNat 8) := by decide

/-- V-D1: (LEN, STATUS) for each first byte; V-X14 among them. -/
theorem test_decrypt_markers :
    ([0x20, 0xA8, 0x40, 0x84, 0x8D] : List Byte).map (fun b =>
      let t := ((loaded 9 [b, 0xEF, 0xCD, 0xAB, 0x89, 0x67, 0x45, 0x23, 0x01]).accept 0x00000003).decrypt vectorChip false
      (t.len, t.statusWord)) =
    [(0, 0x0000000A), (9, 0x0000060E), (9, 0x0000060E), (0, 0x0000000A), (0, 0x0000000A)] := by decide

/-- V-X6 to V-X9, V-X12: errors in their order. -/
theorem test_error_order :
    ((loaded 4097 []).encrypt vectorChip false).statusWord = 0x0000020E ∧
    (({ idle with len := 4097 } : State).decrypt vectorChip false).statusWord = 0x00000206 ∧
    (({ idle with len := 2 } : State).encrypt vectorChip false).statusWord = 0x00000306 ∧
    (({ idle with len := 5 } : State).decrypt vectorChip false).statusWord = 0x00000306 ∧
    ((loaded 4088 []).encrypt vectorChip false).statusWord = 0x0000040E ∧
    ((loaded 5 []).decrypt vectorChip false).statusWord = 0x0000050E := by decide

/-! ## The host's port and the step -/

/-- P1 step 13 (20_memory.md R47), P6 step 3's STATUS (OVR), and a write of one byte lane word. -/
theorem test_host_port :
    (loaded 4 [0x17, 0xE2, 0xF9, 0xDA]).read32Value vectorChip 0x1000 = 0xDAF9E217 ∧
    (((loaded 0 []).overrun).statusWord = 0x0000001A) ∧
    bytes (idle.hostAccess vectorChip (.write32 0x1004 0x48474645)) 9 =
      [0x77, 0x77, 0x77, 0x77, 0x45, 0x46, 0x47, 0x48, 0x77] := by decide

/-- 70_reset_and_hazards.md R157: the first violation stays in the mark (P6 step 2, then a misaligned read). -/
theorem test_mark_keeps_the_first :
    ((((loaded 2 []).accept 0x00000002).hostAccess vectorChip (.write32 0x000 0x00000003)).hostAccess vectorChip
      (.read32 0x1001)).mark = some { kind := .write32, offset := 0x000 } := by decide

/-- 70_reset_and_hazards.md R153 (d), 92_eei_decisions.md D30: a 64-bit write to the BUF window sets the mark with its
width and offset, and no byte changes; what a 64-bit read returns is as wide as the read. -/
theorem test_other_widths :
    let w64 : OtherWidth := ⟨64, by decide⟩
    let t := idle.hostAccess vectorChip (.writeOther w64 0x1000 0x1122334455667788)
    t.mark = some { kind := .writeOther w64, offset := 0x1000 } ∧ bytes t 2 = [0x77, 0x77] ∧
    (idle.hostAccess vectorChip (.readOther w64 0x008)).readings =
      [{ kind := .readOther w64, offset := 0x008, value := 0xDEADBEEFCAFE }] ∧
    isOtherWidth 8 = false ∧ isOtherWidth 16 = false ∧ isOtherWidth 32 = false ∧ isOtherWidth 0 = false := by decide

/-- 30_encoding.md R73: the expansion of ENC. -/
theorem test_enc_expansion :
    encOp true [0x00, 0x01] =
      [.access (.write8 0x1000 0x00), .access (.write8 0x1001 0x01), .access (.write32 0x008 2),
        .access (.write32 0x000 0x00000012), .poll, .readBuffer] := by decide

/-- P3 steps 2 and 4 after reset: the step runs the word that was placed. -/
theorem test_step_runs_the_placed_word :
    step (State.reset.withFetchWord 32 0x00000002) = exec (.encrypt false) (State.reset.withFetchWord 32 0x00000002) ∧
    step (State.reset.withFetchWord 32 0x00000004) = .next ((State.reset.withFetchWord 32 0x00000004).failed 1) :=
  ⟨rfl, rfl⟩

/-! ## Witnesses: the datapath -/

theorem witness_HashBytesAreSlices : (0 : Nat) < 8 ∧ (7 : Nat) < 8 := by decide

theorem witness_RestoreUndoesNormalize : (0 : Nat) < 1 ∧ (16 : Nat) < 17 := by decide

theorem witness_UnmixUndoesMix : (0 : Nat) < 1 ∧ (16 : Nat) < 17 := by decide

theorem witness_PassesIgnoreLanes : (loaded 2 [0x00, 0x01]).mem.wf ∧ idle.mem.wf := by decide

/-! ## Witnesses: the commands -/

/-- The state of a nine-byte DECRYPT whose KEY, key hash and offset bytes are 0, so that CO(0) = 0 and the marker is the
first byte's own value. -/
def nine (b : Byte) : State :=
  { idle with keyValid := true, len := 9, mem := (b :: List.replicate 8 0).zipIdx.map fun p => (p.2, p.1) }

theorem nine_marker : ((nine 0).unmixedByte 0).toNat = 0 ∧ ((nine 5).unmixedByte 0).toNat = 5 ∧
    ((nine 0xC8).unmixedByte 0).toNat = 0xC8 := by decide

theorem witness_LoadkeyEffect : (0 : Nat) < 16 ∧ (15 : Nat) < 16 := by decide

/-- An idle state with a key and LEN = n. -/
def keyed (n : Nat) : State := { idle with keyValid := true, len := BitVec.ofNat 32 n }

theorem keyed_len {n : Nat} (h : n ≤ Config.chip.bufCap + 1) : (keyed n).len.toNat = n := by
  have := Config.chip.bufCap_le
  simp only [keyed, BitVec.toNat_ofNat]
  omega

/-- LEN = 0, and the longest LEN that still fits, BUF_CAP − 9; each clause's position at its ends. -/
theorem witness_EncryptResult :
    ((keyed 0).keyValid = true ∧ max 16 (keyed 0).len.toNat + 9 ≤ Config.chip.bufCap) ∧
    ((keyed (Config.chip.bufCap - 9)).keyValid = true ∧
      max 16 (keyed (Config.chip.bufCap - 9)).len.toNat + 9 ≤ Config.chip.bufCap) ∧
    16 ≤ max 16 (keyed 0).len.toNat ∧ (7 : Nat) < 8 ∧ max 16 (keyed 0).len.toNat + 9 ≤ 25 := by
  have := Config.chip.bufCap_ge
  rw [keyed_len (by omega), keyed_len (by omega)]
  exact ⟨⟨rfl, by omega⟩, ⟨rfl, by omega⟩, by decide⟩

/-- Nine bytes with the marker 0, and with a marker above 16; and the full buffer, whose marker fits whatever it is. -/
theorem witness_DecryptResult :
    ∀ s ∈ [nine 0, nine 0xC8, keyed Config.chip.bufCap],
      s.keyValid = true ∧ 9 ≤ s.len.toNat ∧ s.len.toNat ≤ Config.chip.bufCap ∧
      ((s.unmixedByte (s.len.toNat - 9)).toNat ≤ 16 → (s.unmixedByte (s.len.toNat - 9)).toNat ≤ s.len.toNat - 9) := by
  have := Config.chip.bufCap_ge
  intro s hs
  simp only [List.mem_cons, List.not_mem_nil, or_false] at hs
  rcases hs with rfl | rfl | rfl
  · exact ⟨rfl, by decide, by show 9 ≤ _; omega, fun _ => by decide⟩
  · exact ⟨rfl, by decide, by show 9 ≤ _; omega, fun h => absurd h (by decide)⟩
  · rw [keyed_len (by omega)]
    exact ⟨rfl, by omega, by omega, by omega⟩

/-- LEN_RANGE at BUF_CAP + 1 and at the largest LEN, NO_KEY at both ends, CAPACITY at BUF_CAP − 8 and at BUF_CAP. -/
theorem witness_EncryptErrors :
    Config.chip.bufCap < (keyed (Config.chip.bufCap + 1)).len.toNat ∧
    Config.chip.bufCap < ({ idle with len := 0xFFFFFFFF } : State).len.toNat ∧
    (idle.len.toNat ≤ Config.chip.bufCap ∧ idle.keyValid = false) ∧
    (∀ n ∈ [Config.chip.bufCap - 8, Config.chip.bufCap],
      (keyed n).len.toNat ≤ Config.chip.bufCap ∧ (keyed n).keyValid = true ∧
      Config.chip.bufCap < max 16 (keyed n).len.toNat + 9) := by
  have h1 := Config.chip.bufCap_ge
  have h2 := Config.chip.bufCap_le
  refine ⟨?_, ?_, ⟨Nat.zero_le _, rfl⟩, fun n hn => ?_⟩
  · rw [keyed_len (by omega)]; omega
  · have e : ({ idle with len := 0xFFFFFFFF } : State).len.toNat = 4294967295 := by decide
    omega
  · simp only [List.mem_cons, List.not_mem_nil, or_false] at hn
    rw [keyed_len (by omega)]
    exact ⟨by omega, rfl, by omega⟩

/-- The first two clauses as for ENCRYPT; DEC_SHORT at 0 and 8; DEC_MARKER with nine bytes and the marker 5. -/
theorem witness_DecryptErrors :
    Config.chip.bufCap < (keyed (Config.chip.bufCap + 1)).len.toNat ∧
    (idle.len.toNat ≤ Config.chip.bufCap ∧ idle.keyValid = false) ∧
    (∀ n ∈ [0, 8], (keyed n).len.toNat ≤ Config.chip.bufCap ∧ (keyed n).keyValid = true ∧ (keyed n).len.toNat < 9) ∧
    ((nine 5).len.toNat ≤ Config.chip.bufCap ∧ (nine 5).keyValid = true ∧ 9 ≤ (nine 5).len.toNat ∧
      ((nine 5).unmixedByte ((nine 5).len.toNat - 9)).toNat ≤ 16 ∧
      (nine 5).len.toNat - 9 < ((nine 5).unmixedByte ((nine 5).len.toNat - 9)).toNat) := by
  have h1 := Config.chip.bufCap_ge
  refine ⟨?_, ⟨Nat.zero_le _, rfl⟩, fun n hn => ?_, ?_, rfl, by decide, by decide, by decide⟩
  · rw [keyed_len (by omega)]; omega
  · simp only [List.mem_cons, List.not_mem_nil, or_false] at hn
    rw [keyed_len (by omega)]
    exact ⟨by omega, rfl, by omega⟩
  · show 9 ≤ _; omega

/-- ENCRYPT of 16 bytes passes its checks on every chip. -/
theorem encrypt_passes (par : Bool) (n : Nat) (h : n ≤ 16) :
    (keyed n).encrypt Config.chip par = (keyed n).encryptBody Config.chip par := by
  have h1 := Config.chip.bufCap_ge
  have e : (keyed n).encryptError Config.chip = none := by
    have hk : (keyed n).keyValid = true := rfl
    have hl : (keyed n).len.toNat = n := keyed_len (by omega)
    unfold State.encryptError
    rw [if_neg (by omega), hk, if_neg (by decide), if_neg (by rw [hl]; unfold keyBytes; omega)]
  simp only [State.encrypt, e]

/-- NO_KEY after reset: a command that ends with an error. -/
theorem encrypt_fails (par : Bool) : (idle.encrypt Config.chip par).err = true := by
  have e : idle.encryptError Config.chip = some .noKey := by
    have hl : idle.len.toNat = 0 := by decide
    unfold State.encryptError
    rw [if_neg (by omega), if_pos (by decide)]
  simp only [State.encrypt, e]
  rfl

theorem witness_ErrorsArePrecise :
    exec (.encrypt true) idle = .next (idle.encrypt Config.chip true) ∧ (idle.encrypt Config.chip true).err = true :=
  ⟨rfl, encrypt_fails true⟩

theorem witness_TransformFrame :
    exec (.encrypt false) (keyed 16) = .next ((keyed 16).encrypt Config.chip false) ∧
    exec (.decrypt true) (nine 0) = .next ((nine 0).decrypt Config.chip true) ∧
    max (keyed 16).len.toNat 25 ≤ 25 := ⟨rfl, rfl, by decide⟩

/-- A short and the longest short length; `witness_SuccessfulLengthFits` shares it. -/
theorem witness_EncryptLengthGrowth :
    ∀ n ∈ [0, 16], exec (.encrypt false) (keyed n) = .next ((keyed n).encrypt Config.chip false) ∧
      ((keyed n).encrypt Config.chip false).err = false := by
  intro n hn
  simp only [List.mem_cons, List.not_mem_nil, or_false] at hn
  rw [encrypt_passes _ _ (by omega)]
  exact ⟨congrArg _ (encrypt_passes _ _ (by omega)), rfl⟩

theorem witness_SuccessfulLengthFits :
    exec (.encrypt true) (keyed 16) = .next ((keyed 16).encrypt Config.chip true) ∧
    ((keyed 16).encrypt Config.chip true).err = false :=
  ⟨rfl, by rw [encrypt_passes _ _ (by decide)]; rfl⟩

theorem witness_DrawCount :
    exec .loadkey idle = .next (idle.loadKey Config.chip) ∧
    exec (.encrypt true) idle = .next (idle.encrypt Config.chip true) ∧
    exec (.decrypt true) idle = .next (idle.decrypt Config.chip true) := ⟨rfl, rfl, rfl⟩

/-- The state between may be the very state the ENCRYPT left. -/
theorem witness_DecryptUndoesEncrypt :
    ∃ t, (keyed 2).keyValid = true ∧ max 16 (keyed 2).len.toNat + 9 ≤ Config.chip.bufCap ∧
      exec (.encrypt true) (keyed 2) = .next t ∧ ∃ u : State, u ≠ t ∧
      u.key = t.key ∧ u.khash = t.khash ∧ u.keyValid = t.keyValid ∧ u.len = t.len ∧
      ∀ j, j < t.len.toNat → u.bufByte Config.chip j = t.bufByte Config.chip j := by
  have h1 := Config.chip.bufCap_ge
  refine ⟨_, rfl, ?_, rfl, { (keyed 2).encrypt Config.chip true with ovr := true }, ?_, rfl, rfl, rfl, rfl, fun _ _ => rfl⟩
  · show 25 ≤ _; omega
  · intro h
    have := congrArg State.ovr h
    rw [encrypt_passes _ _ (by decide)] at this
    exact absurd this (by show ¬ (true = false); decide)

theorem witness_ParNeverChangesResult : idle.mem.wf ∧ (loaded 2 [0x00, 0x01]).mem.wf := by decide

/-- The same machine twice, in the two modes; the first state's draws and the second's may differ in number. -/
theorem witness_ResultsAreDetermined :
    (keyed 16).key = (keyed 16).key ∧ (keyed 16).khash = (keyed 16).khash ∧ (keyed 16).len = (keyed 16).len ∧
    (∀ j, j < (keyed 16).len.toNat → (keyed 16).bufByte Config.chip j = (keyed 16).bufByte Config.chip j) ∧
    (∀ k, Config.chip.draw ((keyed 16).draws + k) = Config.chip.draw ((keyed 16).draws + k)) ∧
    ((keyed 16).encrypt Config.chip true).err = false ∧ ((keyed 16).encrypt Config.chip false).err = false ∧
    ((nine 0).decrypt vectorChip true).err = false ∧ ((nine 0).decrypt vectorChip false).err = false :=
  ⟨rfl, rfl, rfl, fun _ _ => rfl, fun _ => rfl, by rw [encrypt_passes _ _ (by decide)]; rfl,
    by rw [encrypt_passes _ _ (by decide)]; rfl, by decide, by decide⟩

/-! ## Witnesses: the step -/

/-- A command word in flight, with the schedule `ts`. -/
def inFlight (w : Word) (ts : List Turn) : State := { idle with busy := true, pend := w, turns := ts }

theorem witness_StepRunsTheDecodedCommand :
    ∀ i ∈ [Instr.loadkey, .encrypt false, .encrypt true, .decrypt false, .decrypt true],
      (inFlight (encode i) []).busy = true ∧ decode (inFlight (encode i) []).pend = .command i ∧
      i.wellFormed = true ∧ (inFlight (encode i) []).turns = [] ∧
      (inFlight (encode i) [.engine, .host]).turns = .engine :: [.host] := by decide

theorem witness_IllegalWordCompletes :
    (inFlight 0x00000011 []).busy = true ∧ decode (inFlight 0x00000011 []).pend = .rejected .loadkeyPar ∧
    (inFlight 0x00000011 []).turns = [] ∧ decode (inFlight 0x00000022 []).pend = .rejected .reservedBits ∧
    decode (inFlight 0x00000000 []).pend = .rejected .reservedOp ∧
    (inFlight 0x00000022 [.engine]).turns = .engine :: [] := by decide

theorem witness_IdleEngineDoesNothing :
    ({ idle with turns := [.engine] } : State).busy = false ∧
    ({ idle with turns := [.engine] } : State).turns = .engine :: [] := by decide

theorem witness_HostTurnRunsItsStatement :
    ({ idle with turns := [.host], program := [.access (.read32 0x00C)] } : State).turns = .host :: [] ∧
    ({ idle with turns := [.host], program := [.access (.read32 0x00C)] } : State).program =
      .access (.read32 0x00C) :: [] ∧
    ({ inFlight 1 [.host] with program := [.poll] } : State).program = .poll :: [] := by decide

theorem witness_ResetTurnResets : (inFlight 0x00000002 [.reset]).turns = .reset :: [] := by decide

/-- A LOADKEY in flight meets the invariant, and a step takes it on. -/
theorem witness_StepKeepsInvariant :
    (inFlight 0x00000001 []).Inv Config.chip ∧ ∃ t, step (inFlight 0x00000001 []) = .next t :=
  ⟨⟨fun h => absurd h (by decide), by unfold State.errMatchesCode; decide, fun _ => ⟨rfl, rfl, rfl⟩,
    fun h => absurd h (by decide),
    fun _ k => by
      simp only [fileByte, inFlight, idle, State.resetFor, Vector.getElem_replicate],
    ⟨List.Pairwise.nil, fun _ h => absurd h (by simp [inFlight, idle, State.resetFor])⟩⟩, _, rfl⟩

theorem witness_OnlyLoadkeyWritesKey :
    (∃ t, step { inFlight 0x00000001 [] with keyin := keyK } = .next t ∧ t.key ≠ idle.key) ∧
    ∃ t, step { loaded 0 [] with turns := [.reset] } = .next t ∧ t.key ≠ (loaded 0 []).key :=
  ⟨⟨_, rfl, by show keyK ≠ Vector.replicate 16 0; decide⟩, ⟨_, rfl, by show Vector.replicate 16 0 ≠ keyK; decide⟩⟩

theorem witness_KeyValidLifetime :
    (∃ t, step (inFlight 0x00000001 []) = .next t ∧ (inFlight 0x00000001 []).keyValid = false ∧ t.keyValid = true) ∧
    ∃ t, step { loaded 0 [] with turns := [.reset] } = .next t ∧ (loaded 0 []).keyValid = true ∧ t.keyValid = false :=
  ⟨⟨_, rfl, rfl, rfl⟩, ⟨_, rfl, rfl, rfl⟩⟩

/-- An accepted CMD write clears OVR; so does a reset. -/
theorem witness_OverrunStaysUntilAccept :
    (∃ t, step { idle with ovr := true, program := [.access (.write32 0x000 1)] } = .next t ∧ t.ovr = false) ∧
    ∃ t, step { idle with ovr := true, turns := [.reset] } = .next t ∧ t.ovr = false :=
  ⟨⟨_, rfl, rfl⟩, ⟨_, rfl, rfl⟩⟩

/-- A second violation, and a reset, with the mark set. -/
theorem witness_MarkIsSticky :
    (∃ t, step { idle with
      mark := some { kind := .read16, offset := 4 }, program := [.access (.write16 0x1000 0)] } = .next t) ∧
    ∃ t, step { idle with mark := some { kind := .read16, offset := 4 }, turns := [.reset] } = .next t :=
  ⟨⟨_, rfl⟩, ⟨_, rfl⟩⟩

theorem witness_OnlyEncryptDraws :
    ∃ t, step { keyed 16 with busy := true, pend := 0x00000002 } = .next t ∧
      t.draws ≠ ({ keyed 16 with busy := true, pend := 0x00000002 } : State).draws := by
  have h1 := Config.chip.bufCap_ge
  refine ⟨_, rfl, ?_⟩
  have e : ({ keyed 16 with busy := true, pend := 0x00000002 } : State).encryptError Config.chip = none := by
    have hl : ({ keyed 16 with busy := true, pend := 0x00000002 } : State).len.toNat = 16 := by decide
    have hk : ({ keyed 16 with busy := true, pend := 0x00000002 } : State).keyValid = true := rfl
    unfold State.encryptError
    rw [if_neg (by omega), hk, if_neg (by decide), if_neg (by rw [hl]; unfold keyBytes; omega)]
  simp only [State.encrypt, e]
  decide

/-! ## Witnesses: the host's port -/

theorem witness_CmdWriteAccepts : idle.busy = false := rfl

theorem witness_CmdWriteWhileBusyOverruns : (inFlight 0x00000002 []).busy = true := rfl

theorem witness_StatusFields : (3 : Nat) < 4 ∧ (5 ≤ (7 : Nat) ∧ (7 : Nat) < 8) ∧ 12 ≤ (31 : Nat) := by decide

theorem witness_LenAndCapRegisters : (loaded 9 []).busy = false := rfl

/-- Idle, an ENCRYPT in flight, an illegal word in flight; and a LOADKEY in flight for the last clause. -/
theorem witness_KeyinRegisters : (0 : Nat) < 4 ∧ (3 : Nat) < 4 ∧
    (idle.busy = true → decode idle.pend ≠ .command .loadkey) ∧
    ((inFlight 0x00000002 []).busy = true → decode (inFlight 0x00000002 []).pend ≠ .command .loadkey) ∧
    ((inFlight 0x00000011 []).busy = true → decode (inFlight 0x00000011 []).pend ≠ .command .loadkey) ∧
    (inFlight 0x00000001 []).busy = true ∧ decode (inFlight 0x00000001 []).pend = .command .loadkey := by decide

theorem witness_KeyView : (3 : Nat) < 4 ∧ idle.noKeyIsZero ∧ idle.keyValid = false :=
  ⟨by decide, fun _ k => by simp only [fileByte, idle, State.resetFor, Vector.getElem_replicate], rfl⟩

/-- The first and the last byte of BUF; the first word, and the last one wholly inside, at BUF_CAP = 4 (q + 1) + r. -/
theorem witness_BufferReads : idle.busy = false ∧ 0 < Config.chip.bufCap ∧ Config.chip.bufCap - 1 < Config.chip.bufCap ∧
    0 + 3 < Config.chip.bufCap ∧ 4 * (Config.chip.bufCap / 4 - 1) % 4 = 0 ∧
    4 * (Config.chip.bufCap / 4 - 1) + 3 < Config.chip.bufCap := by
  have := Config.chip.bufCap_ge
  exact ⟨rfl, by omega, by omega, by omega, by omega, by omega⟩

theorem witness_BufferWrites : (loaded 2 [0x00, 0x01]).busy = false ∧ Config.chip.bufCap - 1 < Config.chip.bufCap ∧
    4 * (Config.chip.bufCap / 4 - 1) % 4 = 0 ∧ 4 * (Config.chip.bufCap / 4 - 1) + 3 < Config.chip.bufCap := by
  have := Config.chip.bufCap_ge
  exact ⟨rfl, by omega, by omega, by omega⟩

/-- The ends of the lower hole, and the first byte above BUF. -/
theorem witness_ReservedSpaceIsRazWi :
    (∀ a ∈ [0x030, 0xFFC, 0xFFF, 0x1000 + Config.chip.bufCap],
      (0x030 ≤ a ∧ a < 0x1000) ∨ 0x1000 + Config.chip.bufCap ≤ a) ∧ 0xFFC % 4 = 0 := by
  refine ⟨fun a ha => ?_, by decide⟩
  simp only [List.mem_cons, List.not_mem_nil, or_false] at ha
  omega

theorem witness_ReadOnlyRegistersIgnoreWrites : idle.busy = false ∧
    ∀ a ∈ [0x004, 0x00C, 0x020, 0x024, 0x028, 0x02C],
      a = 0x004 ∨ a = 0x00C ∨ a = 0x020 ∨ a = 0x024 ∨ a = 0x028 ∨ a = 0x02C := by decide

/-- STATUS, and a byte of the reserved space, read while BUSY. -/
theorem witness_ReadsHaveNoSideEffect :
    (HostAccess.read32 0x004).kind.isRead = true ∧ (inFlight 0x00000002 []).permits Config.chip (.read32 0x004) = true ∧
    (HostAccess.read8 0x030).kind.isRead = true ∧ (inFlight 0x00000002 []).permits Config.chip (.read8 0x030) = true :=
  ⟨rfl, rfl, rfl, rfl⟩

/-- Each item, and each alternative of the last, at an end of its range. -/
theorem witness_ProtocolViolations :
    ((inFlight 0x00000002 []).busy = true ∧ (HostAccess.write32 0x008 5).offset = 0x008 ∧
      0x1000 ≤ (HostAccess.read8 0x1000).offset ∧ (HostAccess.read8 0x1000).offset < 0x1000 + Config.chip.bufCap) ∧
    ((inFlight 0x00000001 []).busy = true ∧ decode (inFlight 0x00000001 []).pend = .command .loadkey ∧
      (HostAccess.write32 0x01C 0).kind.isRead = false ∧ 0x010 ≤ (HostAccess.write32 0x01C 0).offset ∧
      (HostAccess.write32 0x01C 0).offset < 0x020) ∧
    ((HostAccess.write32 0x000 1).kind.isRead = false ∧ (HostAccess.write32 0x000 1).offset = 0x000) ∧
    ((HostAccess.read16 0x1000).kind = .read16 ∧ (HostAccess.write16 0x1000 0).kind = .write16 ∧
      (HostAccess.read8 0x02F).kind = .read8 ∧ (HostAccess.read8 0x02F).offset < 0x030 ∧
      (HostAccess.read32 0x1001).kind = .read32 ∧ (HostAccess.read32 0x1001).offset % 4 ≠ 0) ∧
    (∃ w, (HostAccess.readOther ⟨64, by decide⟩ 0x1000).kind = .readOther w ∨
      (HostAccess.readOther ⟨64, by decide⟩ 0x1000).kind = .writeOther w) ∧
    (∃ w, (HostAccess.writeOther ⟨24, by decide⟩ 0x000 1).kind = .readOther w ∨
      (HostAccess.writeOther ⟨24, by decide⟩ 0x000 1).kind = .writeOther w) ∧
    (HostAccess.write32 0x1018 0).kind = .write32 ∧
    ({ vectorChip with capExtra := ⟨0, by decide⟩ } : Config).bufCap = 25 ∧
      0x1000 ≤ (HostAccess.write32 0x1018 0).offset ∧ (HostAccess.write32 0x1018 0).offset < 0x1000 + 25 ∧
      0x1000 + 25 ≤ (HostAccess.write32 0x1018 0).offset + 3 := by
  have := Config.chip.bufCap_ge
  refine ⟨⟨rfl, rfl, by decide, ?_⟩, by decide, by decide, by decide, ⟨_, .inl rfl⟩, ⟨_, .inr rfl⟩, by decide, by decide, by decide,
    by decide, by decide⟩
  show 0x1000 < _
  omega

/-- A byte at the first permitted offset; a register, a word of BUF and a word above BUF. -/
theorem witness_PermittedWhileIdle : idle.busy = false ∧
    ((HostAccess.read8 0x030).kind = .read8 ∧ 0x030 ≤ (HostAccess.read8 0x030).offset) ∧
    ((HostAccess.write32 0x02C 0).kind = .write32 ∧ (HostAccess.write32 0x02C 0).offset % 4 = 0 ∧
      (HostAccess.write32 0x02C 0).offset < 0x1000) ∧
    (HostAccess.read32 0x1014).kind = .read32 ∧ (HostAccess.read32 0x1014).offset % 4 = 0 ∧
    (HostAccess.read32 0x1014).offset + 3 < 0x1000 + Config.chip.bufCap := by
  have := Config.chip.bufCap_ge
  refine ⟨rfl, by decide, by decide, rfl, by decide, ?_⟩
  show 0x1017 < _
  omega

/-- A dropped CMD write, a 16-bit read, a byte written to a register, a 64-bit read. -/
theorem witness_ViolationOnlyMarks :
    (inFlight 0x00000002 []).permits Config.chip (.write32 0x000 1) = false ∧
    idle.permits Config.chip (.read16 0x1000) = false ∧ idle.permits Config.chip (.write8 0x02F 0) = false ∧
    idle.permits Config.chip (.readOther ⟨64, by decide⟩ 0x1000) = false :=
  ⟨rfl, rfl, rfl, rfl⟩

theorem witness_EngineInputIsStateAtIssue :
    (inFlight 0x00000001 []).busy = true ∧ decode (inFlight 0x00000001 []).pend = .command .loadkey := by decide

theorem witness_SetkeyInstallsItsBytes : (loaded 5 []).busy = false := rfl

end Sys2Proof.Tests
end

/-! Proofs of the family 00_scope.md: the engine performs the command in PEND (R6, R40), and what it will read is
the state at issue, out of the host's reach while BUSY is 1 (R61, R80). -/

namespace Sys2Proof.Machine

/-! ## The engine's move -/

theorem State.engineStep_of_command {s : State} {i : Instr} (hd : decode s.pend = .command i) :
    s.engineStep = exec i s := by
  simp only [State.engineStep, State.fetch, hd]

theorem State.engineTurn_of_busy {s : State} (hb : s.busy = true) : s.engineTurn = s.engineStep := by
  simp only [State.engineTurn, hb, if_true]

theorem step_of_busy_of_turns_nil {s : State} (hb : s.busy = true) (ht : s.turns = []) : step s = s.engineStep := by
  simp only [step, State.move, ht, hb, if_true]

theorem step_of_turns_engine {s : State} {ts : List Turn} (ht : s.turns = .engine :: ts) :
    step s = (s.setTurns ts).engineTurn := by
  simp only [step, State.move, ht]

/-- Settles O27: the engine moves with an empty schedule as well as in its own turn, and giving up the turn leaves
BUSY and PEND. -/
theorem stepRunsTheDecodedCommand : Obligations.StepRunsTheDecodedCommand := by
  unfold Obligations.StepRunsTheDecodedCommand
  intro s i hb hd _
  refine ⟨fun ht => ?_, fun ts ht => ?_⟩
  · rw [step_of_busy_of_turns_nil hb ht, State.engineStep_of_command hd]
  · calc step s = (s.setTurns ts).engineTurn := step_of_turns_engine ht
      _ = (s.setTurns ts).engineStep := State.engineTurn_of_busy (by simpa using hb)
      _ = exec i (s.setTurns ts) := State.engineStep_of_command (by simpa using hd)

/-! ## What a command in flight reads -/

/-- What the engine reads when it performs the command in flight: KEYIN is a part of it for a LOADKEY only
(10_state.md R31, 41_key.md R80). -/
structure CommandInput where
  busy : Bool
  pend : Word
  len : Word
  mem : Memory
  key : Vector Byte 16
  khash : BitVec 64
  keyValid : Bool
  draws : Nat
  keyin : Option (Vector Byte 16)

/-- The command's input as the state holds it. -/
def State.commandInput (s : State) : CommandInput :=
  { busy := s.busy, pend := s.pend, len := s.len, mem := s.mem, key := s.key, khash := s.khash
    keyValid := s.keyValid, draws := s.draws
    keyin := if s.loadkeyInFlight then some s.keyin else none }

section
variable (cfg : Config) (s : State)

@[simp] theorem State.addReading_commandInput (r : Reading) : (s.addReading r).commandInput = s.commandInput := rfl

@[simp] theorem State.setMark_commandInput (v : Violation) : (s.setMark v).commandInput = s.commandInput := rfl

@[simp] theorem State.useFree_commandInput : s.useFree.commandInput = s.commandInput := rfl

@[simp] theorem State.overrun_commandInput : s.overrun.commandInput = s.commandInput := rfl

@[simp] theorem State.setKeyin_loadkeyInFlight (v : Vector Byte 16) :
    (s.setKeyin v).loadkeyInFlight = s.loadkeyInFlight := rfl

/-- Without a LOADKEY in flight the staging registers are no input of the command. -/
theorem State.setKeyin_commandInput (h : s.loadkeyInFlight = false) (v : Vector Byte 16) :
    (s.setKeyin v).commandInput = s.commandInput := by
  simp [State.commandInput, h]

theorem State.violationEffect_commandInput (a : HostAccess) :
    (s.violationEffect cfg a).commandInput = s.commandInput := by
  rcases s.violationEffect_cases cfg a with ⟨_, _, _, _, _, h⟩ | h <;> rw [h]
  exact s.overrun_commandInput

variable {cfg s}

/-- A write permitted while BUSY reaches a target that R156 lists. -/
theorem State.busyWriteOk_of_permits {a : HostAccess} {x : Target} (hb : s.busy = true)
    (hp : s.permits cfg a = true) (hw : a.kind.isRead = false) (hx : targetOf cfg a.offset = x) :
    s.busyWriteOk x = true := by
  simp only [State.permits, hb, hw, hx, Bool.and_eq_true] at hp
  simpa using hp.2

/-- While BUSY a permitted access has no effect but a KEYIN write, and that one only without a LOADKEY in flight
(70_reset_and_hazards.md R153 (b), R156): CMD, LEN and BUF take no permitted write then. -/
theorem State.writeEffect_of_busy {a : HostAccess} (hb : s.busy = true) (hp : s.permits cfg a = true) :
    s.writeEffect cfg a = s ∨ s.loadkeyInFlight = false ∧ ∃ v, s.writeEffect cfg a = s.setKeyin v := by
  have target {x : Target} := State.busyWriteOk_of_permits (x := x) hb hp
  rcases s.writeEffect_cases cfg a with
    ⟨v, rfl, -⟩ | ⟨v, rfl, -⟩ | ⟨x, v, w, rfl, hx, he⟩ | ⟨x, v, j, rfl, hx, -⟩ | ⟨x, v, j, rfl, hx, -⟩ | he
  · exact absurd (target (x := .cmd) rfl rfl) Bool.false_ne_true
  · exact absurd (target (x := .len) rfl rfl) Bool.false_ne_true
  · exact .inr ⟨by simpa [State.busyWriteOk] using target rfl hx, _, he⟩
  · exact absurd (target rfl hx) Bool.false_ne_true
  · exact absurd (target rfl hx) Bool.false_ne_true
  · exact .inl he

theorem State.writeEffect_commandInput {a : HostAccess} (hb : s.busy = true) (hp : s.permits cfg a = true) :
    (s.writeEffect cfg a).commandInput = s.commandInput := by
  rcases State.writeEffect_of_busy hb hp with h | ⟨hl, v, h⟩ <;> rw [h]
  exact s.setKeyin_commandInput hl v

/-- No access of the host, permitted or not, changes the input of a command in flight (00_scope.md R6, 20_memory.md
R61). -/
theorem State.hostAccess_commandInput (a : HostAccess) (hb : s.busy = true) :
    (s.hostAccess cfg a).commandInput = s.commandInput :=
  s.hostAccess_induct cfg (fun t => t.commandInput = s.commandInput) a
    (reading := fun t r h => (t.addReading_commandInput r).trans h)
    (mark := fun t v h => (t.setMark_commandInput v).trans h)
    (free := fun t h => t.useFree_commandInput.trans h)
    (violation := fun _ => s.violationEffect_commandInput cfg a)
    (effect := fun hp => State.writeEffect_commandInput hb hp)

end

/-- Settles O55: every item of the list is a part of the command's input. -/
theorem engineInputIsStateAtIssue : Obligations.EngineInputIsStateAtIssue := by
  unfold Obligations.EngineInputIsStateAtIssue
  intro s a hb
  have same := State.hostAccess_commandInput (cfg := Config.chip) a hb
  simp only [State.commandInput, CommandInput.mk.injEq] at same
  obtain ⟨busy, pend, len, mem, key, khash, keyValid, draws, keyin⟩ := same
  refine ⟨busy.trans hb, pend, len, mem, key, khash, keyValid, draws, fun hd => ?_⟩
  simpa [State.loadkeyInFlight, busy, pend, hb, hd] using keyin

end Sys2Proof.Machine

/-! Proofs of the family 10_state.md: the invariants of R41, the life of KEY, KEY_VALID and OVR, the registers as the
host writes and reads them, and what a host protocol violation leaves. -/

namespace Sys2Proof.Machine

/-! ## How a command ends -/

theorem ErrCode.bits_eq_zero_iff (c : ErrCode) : c.bits = 0#4 ↔ c = .none := by cases c <;> decide

theorem ErrCode.bits_toNat_le (c : ErrCode) : c.bits.toNat ≤ 6 := by cases c <;> decide

/-- A command has ended (10_state.md R23 to R26). -/
def State.completed (s : State) : Prop := s.busy = false ∧ s.done = true ∧ s.pend = 0 ∧ s.errMatchesCode

section
variable (cfg : Config) (s : State) (par : Bool)

theorem State.finish_completed (c : ErrCode) : (s.finish c).completed :=
  ⟨rfl, rfl, rfl, by simp [State.errMatchesCode, c.bits_eq_zero_iff, c.bits_toNat_le]⟩

theorem State.raiseError_completed (c : ErrCode) : (s.raiseError cfg c).completed := s.finish_completed c

/-- An ENCRYPT raises an error, or its result fits the buffer (45_transform.md R115). -/
theorem State.encrypt_cases :
    (∃ c, c ≠ .none ∧ s.encrypt cfg par = s.raiseError cfg c) ∨
    (max 16 s.len.toNat + 9 ≤ cfg.bufCap ∧ s.encrypt cfg par = s.encryptBody cfg par) := by
  simp only [State.encrypt, State.encryptError]
  split_ifs with hr hk hc
  · exact .inl ⟨.lenRange, by decide, rfl⟩
  · exact .inl ⟨.noKey, by decide, rfl⟩
  · exact .inl ⟨.capacity, by decide, rfl⟩
  · exact .inr ⟨Nat.le_of_not_lt hc, rfl⟩

/-- A DECRYPT raises an error, or its buffer holds the eight embedded bytes and a marker (45_transform.md R116). -/
theorem State.decrypt_cases :
    (∃ c, c ≠ .none ∧ s.decrypt cfg par = s.raiseError cfg c) ∨
    (9 ≤ s.len.toNat ∧ s.len.toNat ≤ cfg.bufCap ∧ s.decrypt cfg par = s.decryptBody cfg par) := by
  simp only [State.decrypt, State.decryptError]
  split_ifs with hr hk hs hm
  · exact .inl ⟨.lenRange, by decide, rfl⟩
  · exact .inl ⟨.noKey, by decide, rfl⟩
  · exact .inl ⟨.decShort, by decide, rfl⟩
  · exact .inl ⟨.decMarker, by decide, rfl⟩
  · exact .inr ⟨Nat.le_of_not_lt hs, Nat.le_of_not_lt hr, rfl⟩

theorem State.encrypt_completed : (s.encrypt cfg par).completed := by
  rcases s.encrypt_cases cfg par with ⟨c, -, h⟩ | ⟨-, h⟩ <;> rw [h]
  · exact s.raiseError_completed cfg c
  · exact State.finish_completed _ .none

theorem State.decrypt_completed : (s.decrypt cfg par).completed := by
  rcases s.decrypt_cases cfg par with ⟨c, -, h⟩ | ⟨-, -, h⟩ <;> rw [h]
  · exact s.raiseError_completed cfg c
  · exact State.finish_completed _ .none

theorem exec_completes (i : Instr) : ∃ t, exec i s = .next t ∧ t.completed := by
  cases i with
  | loadkey => exact ⟨_, rfl, State.finish_completed _ .none⟩
  | encrypt par => exact ⟨_, rfl, s.encrypt_completed Config.chip par⟩
  | decrypt par => exact ⟨_, rfl, s.decrypt_completed Config.chip par⟩

end

/-- Settles O25: every command ends as a completed one. -/
theorem everyCommandCompletes : Obligations.EveryCommandCompletes := by
  unfold Obligations.EveryCommandCompletes
  intro i s
  obtain ⟨t, he, hbusy, hdone, hpend, herr⟩ := exec_completes s i
  exact ⟨t, he, hbusy, hdone, hpend, herr⟩

/-! ## The buffer's form -/

/-- The canonical form inside 0..cap−1, which `State.bufInside` asks of BUF. -/
def Memory.inside (cap : Nat) (m : Memory) : Prop := m.wf ∧ ∀ c ∈ m, c.1 < cap

section
variable {cap : Nat} {m : Memory}

theorem Memory.put_inside (h : m.inside cap) {j : Nat} (hj : j < cap) (v : Byte) : (m.put j v).inside cap := by
  refine ⟨Memory.put_wf h.1 j v, fun c hc => ?_⟩
  rcases Memory.mem_put m hc with rfl | hc
  · exact hj
  · exact h.2 c hc

theorem Memory.fill_inside (h : m.inside cap) {start n : Nat} (hn : n = 0 ∨ start + n ≤ cap) (g : Nat → Byte) :
    (m.fill start n g).inside cap := by
  refine ⟨Memory.fill_wf h.1 start n g, fun c hc => ?_⟩
  rcases Memory.mem_fill m hc with hc | hc
  · omega
  · exact h.2 c hc

theorem Memory.pass_inside (h : m.inside cap) (free : Nat → Byte) (f : Nat → Byte → Byte) {is : List Nat}
    (his : ∀ i ∈ is, i < cap) : (m.pass free f is).inside cap := by
  refine ⟨Memory.pass_wf free h.1 f is, fun c hc => ?_⟩
  rcases Memory.mem_pass free m hc with hc | hc
  · exact his _ hc
  · exact h.2 c hc

end

section
variable {cfg : Config} {s : State}

theorem State.bufInside_iff : s.bufInside cfg ↔ s.mem.inside cfg.bufCap := Iff.rfl

theorem State.normalize_bufInside (h : s.bufInside cfg) {n : Nat} (hn : max 16 n < cfg.bufCap) :
    (s.normalize cfg n).bufInside cfg := by
  have padded : n + padCount n ≤ cfg.bufCap := by unfold padCount keyBytes; omega
  simp only [State.bufInside_iff, State.normalize, markerPos_eq]
  exact Memory.put_inside (Memory.fill_inside h (.inr padded) _) hn _

theorem State.mix_bufInside (h : s.bufInside cfg) (par : Bool) {m : Nat} (hm : m ≤ cfg.bufCap) :
    (s.mix cfg par m).bufInside cfg := by
  simp only [State.bufInside_iff, State.mix]
  exact Memory.pass_inside h _ _ fun _ hi => ((mem_passOrder ..).1 hi).trans_le hm

theorem State.unmix_bufInside (h : s.bufInside cfg) (par : Bool) {m : Nat} (hm : m ≤ cfg.bufCap) :
    (s.unmix cfg par m).bufInside cfg := by
  simp only [State.bufInside_iff, State.unmix]
  exact Memory.pass_inside h _ _ fun _ hi => ((mem_passOrder ..).1 hi).trans_le hm

theorem State.embed_bufInside (h : s.bufInside cfg) {m : Nat} (hm : m + 8 ≤ cfg.bufCap) :
    (s.embed m).bufInside cfg := by
  simp only [State.bufInside_iff, State.embed]
  exact Memory.fill_inside h (.inr hm) _

theorem State.dropBytes_bufInside (h : s.bufInside cfg) (n' : Nat) {n : Nat} (hn : n ≤ cfg.bufCap) :
    (s.dropBytes cfg n' n).bufInside cfg := by
  simp only [State.bufInside_iff, State.dropBytes]
  exact Memory.fill_inside h (by omega) _

theorem State.encryptBody_bufInside (h : s.bufInside cfg) (par : Bool) (hfit : max 16 s.len.toNat + 9 ≤ cfg.bufCap) :
    (s.encryptBody cfg par).bufInside cfg := by
  have normalized : ((s.normalize cfg s.len.toNat).offsetGen cfg).bufInside cfg :=
    State.normalize_bufInside h (by omega)
  have hm : markerPos s.len.toNat + 1 + 8 ≤ cfg.bufCap := by rw [markerPos_eq]; omega
  exact State.embed_bufInside (State.mix_bufInside normalized par (by omega)) hm

theorem State.decryptBody_bufInside (h : s.bufInside cfg) (par : Bool) (hfit : s.len.toNat ≤ cfg.bufCap) :
    (s.decryptBody cfg par).bufInside cfg := by
  have extracted : (s.extract cfg (s.len.toNat - 8)).bufInside cfg := h
  exact State.dropBytes_bufInside (State.unmix_bufInside extracted par (by omega)) _ hfit

theorem State.encrypt_bufInside (h : s.bufInside cfg) (par : Bool) : (s.encrypt cfg par).bufInside cfg := by
  rcases s.encrypt_cases cfg par with ⟨c, -, he⟩ | ⟨hfit, he⟩ <;> rw [he]
  · exact h
  · exact State.encryptBody_bufInside h par hfit

theorem State.decrypt_bufInside (h : s.bufInside cfg) (par : Bool) : (s.decrypt cfg par).bufInside cfg := by
  rcases s.decrypt_cases cfg par with ⟨c, -, he⟩ | ⟨-, hfit, he⟩ <;> rw [he]
  · exact h
  · exact State.decryptBody_bufInside h par hfit

end

/-! ## The key registers -/

/-- KEY, KHASH and KEY_VALID, which LOADKEY writes together (41_key.md R75). -/
structure KeyState where
  key : Vector Byte 16
  khash : BitVec 64
  keyValid : Bool

/-- The key registers of the state. -/
def State.keyState (s : State) : KeyState := { key := s.key, khash := s.khash, keyValid := s.keyValid }

section
variable (cfg : Config) (s : State)

/-- ENCRYPT and DECRYPT write no key register (10_state.md R33). -/
theorem State.encrypt_keyState (par : Bool) : (s.encrypt cfg par).keyState = s.keyState := by
  rcases s.encrypt_cases cfg par with ⟨c, -, h⟩ | ⟨-, h⟩ <;> simp [h, State.keyState, State.encryptBody]

theorem State.decrypt_keyState (par : Bool) : (s.decrypt cfg par).keyState = s.keyState := by
  rcases s.decrypt_cases cfg par with ⟨c, -, h⟩ | ⟨-, -, h⟩ <;> simp [h, State.keyState, State.decryptBody]

theorem State.writeEffect_keyState (a : HostAccess) : (s.writeEffect cfg a).keyState = s.keyState := by
  rcases s.writeEffect_cases cfg a with
    ⟨_, _, h⟩ | ⟨_, _, h⟩ | ⟨_, _, _, _, _, h⟩ | ⟨_, _, _, _, _, h⟩ | ⟨_, _, _, _, _, h⟩ | h <;> rw [h] <;> rfl

theorem State.violationEffect_keyState (a : HostAccess) : (s.violationEffect cfg a).keyState = s.keyState := by
  rcases s.violationEffect_cases cfg a with ⟨_, _, _, _, _, h⟩ | h <;> rw [h]
  rfl

theorem State.hostAccess_keyState (a : HostAccess) : (s.hostAccess cfg a).keyState = s.keyState :=
  s.hostAccess_induct cfg (fun t => t.keyState = s.keyState) a
    (reading := fun _ _ h => h) (mark := fun _ _ h => h) (free := fun _ h => h)
    (violation := fun _ => s.violationEffect_keyState cfg a) (effect := fun _ => s.writeEffect_keyState cfg a)

theorem State.hostStep_keyState : (s.hostStep cfg).keyState = s.keyState :=
  s.hostStep_induct cfg (fun t => t.keyState = s.keyState) rfl (program := fun _ _ h => h)
    (access := fun t a h => (t.hostAccess_keyState cfg a).trans h)

end

/-! ## The invariant -/

section
variable {cfg : Config} {s t : State}

/-- The state without what no invariant of R41 (a) to (e) speaks of. -/
def State.invPart (s : State) : State :=
  { s with
    ovr := false, len := 0, keyin := Vector.replicate 16 0, off := Vector.replicate 8 0, mark := none
    program := [], readings := [], turns := [], draws := 0, frees := 0, resets := 0 }

theorem State.Inv.of_invPart_eq (hs : s.Inv cfg) (h : t.invPart = s.invPart) : t.Inv cfg := by
  have part : s.invPart.Inv cfg := ⟨hs.idlePend, hs.errCode, hs.busyStatus, hs.hash, hs.noKey, hs.buf⟩
  rw [← h] at part
  exact ⟨part.idlePend, part.errCode, part.busyStatus, part.hash, part.noKey, part.buf⟩

theorem State.Inv.withMem (hs : s.Inv cfg) {m : Memory} (hm : m.inside cfg.bufCap) :
    ({ s with mem := m } : State).Inv cfg :=
  ⟨hs.idlePend, hs.errCode, hs.busyStatus, hs.hash, hs.noKey, hm⟩

/-- Acceptance gives exactly the status that (c) asks of a busy block. -/
theorem State.Inv.accept (hs : s.Inv cfg) (w : Word) : (s.accept w).Inv cfg :=
  ⟨fun h => absurd h (by simp), by simp [State.errMatchesCode], fun _ => ⟨rfl, rfl, rfl⟩, hs.hash, hs.noKey, hs.buf⟩

/-- A command that has ended, with the key registers as they were. -/
theorem State.Inv.of_completed (hs : s.Inv cfg) (hc : t.completed) (hk : t.keyState = s.keyState)
    (hm : t.bufInside cfg) : t.Inv cfg := by
  obtain ⟨hbusy, -, hpend, herr⟩ := hc
  simp only [State.keyState, KeyState.mk.injEq] at hk
  obtain ⟨hkey, hkhash, hvalid⟩ := hk
  refine ⟨fun _ => hpend, herr, fun h => absurd (hbusy.symm.trans h) (by decide), ?_, ?_, hm⟩
  · simpa only [State.hashMatchesKey, hkey, hkhash, hvalid] using hs.hash
  · simpa only [State.noKeyIsZero, hkey, hvalid] using hs.noKey

/-- LOADKEY sets the key and its hash together, so (d) holds by what it writes. -/
theorem State.Inv.loadKey (hs : s.Inv cfg) : (s.loadKey cfg).Inv cfg :=
  ⟨fun _ => rfl, by simp [State.errMatchesCode], fun h => absurd h (by simp), fun _ => rfl,
    fun h => absurd h (by simp), hs.buf⟩

/-- The reset values that the invariant speaks of (70_reset_and_hazards.md R150); KHASH may hold anything. -/
theorem State.inv_of_reset_values (hbusy : s.busy = false) (hpend : s.pend = 0) (herr : s.err = false)
    (hcode : s.errcode = 0) (hvalid : s.keyValid = false) (hkey : s.key = Vector.replicate 16 0) (hmem : s.mem = []) :
    s.Inv cfg where
  idlePend _ := hpend
  errCode := by simp [State.errMatchesCode, herr, hcode]
  busyStatus h := absurd (hbusy.symm.trans h) (by decide)
  hash h := absurd (hvalid.symm.trans h) (by decide)
  noKey _ k := by simp [fileByte, hkey]
  buf := by simp [State.bufInside, hmem]

end

section
variable {cfg : Config}

theorem lt_bufCap_of_targetOf_buf {a j : Nat} (h : targetOf cfg a = .buf j) : j < cfg.bufCap := by
  simp only [targetOf] at h
  split_ifs at h with _ _ _ _ _ _ hb
  injection h with h
  omega

/-- A permitted 32-bit access to BUF is wholly inside it (20_memory.md R50). -/
theorem State.lt_bufCap_of_permits_write32 {s : State} {a j : Nat} {v : Word} (hp : s.permits cfg (.write32 a v) = true)
    (h : targetOf cfg a = .buf j) : j + 3 < cfg.bufCap := by
  simp only [State.permits, HostAccess.widthOk, widthOk32, h, Bool.and_eq_true, decide_eq_true_eq] at hp
  obtain ⟨⟨-, hinside⟩, -⟩ := hp
  exact hinside

variable {s t : State}

theorem State.Inv.writeEffect (hs : s.Inv cfg) {a : HostAccess} (hp : s.permits cfg a = true) :
    (s.writeEffect cfg a).Inv cfg := by
  rcases s.writeEffect_cases cfg a with
    ⟨v, -, h⟩ | ⟨v, -, h⟩ | ⟨x, v, w, -, -, h⟩ | ⟨x, v, j, -, hx, h⟩ | ⟨x, v, j, rfl, hx, h⟩ | h <;> rw [h]
  · exact hs.accept v
  · exact hs.of_invPart_eq rfl
  · exact hs.of_invPart_eq rfl
  · exact hs.withMem (Memory.put_inside hs.buf (lt_bufCap_of_targetOf_buf hx) v)
  · exact hs.withMem (Memory.fill_inside hs.buf (.inr (State.lt_bufCap_of_permits_write32 hp hx)) _)
  · exact hs

theorem State.Inv.violationEffect (hs : s.Inv cfg) (a : HostAccess) : (s.violationEffect cfg a).Inv cfg := by
  rcases s.violationEffect_cases cfg a with ⟨x, v, -, -, -, h⟩ | h <;> rw [h]
  · exact hs.of_invPart_eq rfl
  · exact hs

theorem State.Inv.hostAccess (hs : s.Inv cfg) (a : HostAccess) : (s.hostAccess cfg a).Inv cfg :=
  s.hostAccess_induct cfg (State.Inv cfg) a
    (reading := fun _ _ h => h.of_invPart_eq rfl) (mark := fun _ _ h => h.of_invPart_eq rfl)
    (free := fun _ h => h.of_invPart_eq rfl) (violation := fun _ => hs.violationEffect a)
    (effect := fun hp => hs.writeEffect hp)

theorem State.Inv.hostStep (hs : s.Inv cfg) : (s.hostStep cfg).Inv cfg :=
  s.hostStep_induct cfg (State.Inv cfg) hs (program := fun _ _ h => h.of_invPart_eq rfl)
    (access := fun _ a h => h.hostAccess a)

theorem State.Inv.of_exec (hs : s.Inv Config.chip) {i : Instr} (h : exec i s = .next t) : t.Inv Config.chip := by
  cases i with
  | loadkey =>
    injection h with h
    exact h ▸ hs.loadKey
  | encrypt par =>
    injection h with h
    exact h ▸ hs.of_completed (s.encrypt_completed _ par) (s.encrypt_keyState _ par) (State.encrypt_bufInside hs.buf par)
  | decrypt par =>
    injection h with h
    exact h ▸ hs.of_completed (s.decrypt_completed _ par) (s.decrypt_keyState _ par) (State.decrypt_bufInside hs.buf par)

end

/-- Settles O35, by the agent that moves. -/
theorem stepKeepsInvariant : Obligations.StepKeepsInvariant := by
  unfold Obligations.StepKeepsInvariant
  intro s t hs h
  have turn : ∀ ts, (s.setTurns ts).Inv Config.chip := fun ts => hs.of_invPart_eq rfl
  rcases step_cases h with ⟨ts, i, -, -, he⟩ | ⟨ts, r, -, -, rfl⟩ | ⟨ts, rfl⟩ | ⟨ts, rfl⟩ | ⟨ts, rfl⟩
  · exact (turn ts).of_exec he
  · exact (turn ts).of_completed (State.raiseError_completed _ _ _) rfl (turn ts).buf
  · exact (turn ts).hostStep
  · exact State.inv_of_reset_values rfl rfl rfl rfl rfl rfl rfl
  · exact turn ts

/-- Settles O34. -/
theorem resetMeetsInvariant : Obligations.ResetMeetsInvariant :=
  State.inv_of_reset_values rfl rfl rfl rfl rfl rfl rfl

/-! ## The length after a command -/

section
variable {cfg : Config} {s : State} {par : Bool}

theorem State.encryptBody_len_le (hfit : max 16 s.len.toNat + 9 ≤ cfg.bufCap) :
    (s.encryptBody cfg par).len.toNat ≤ cfg.bufCap := by
  have hlen : (s.encryptBody cfg par).len = BitVec.ofNat 32 (markerPos s.len.toNat + 1 + 8) := rfl
  rw [hlen, markerPos_eq, BitVec.toNat_ofNat]
  exact (Nat.mod_le _ _).trans (by omega)

/-- RESTORE gives at most 16, which R9's smallest buffer holds, or the bytes before the marker (R88). -/
theorem restoredLength_le (m : Nat) (marker : Byte) : restoredLength m marker ≤ max 16 (m - 1) := by
  unfold restoredLength keyBytes
  split <;> omega

theorem State.decryptBody_len_le (hfit : s.len.toNat ≤ cfg.bufCap) :
    (s.decryptBody cfg par).len.toNat ≤ cfg.bufCap := by
  have hcap := cfg.bufCap_ge
  obtain ⟨marker, hlen⟩ : ∃ marker, (s.decryptBody cfg par).len = BitVec.ofNat 32 (restoredLength (s.len.toNat - 8) marker) :=
    ⟨_, rfl⟩
  have hle := restoredLength_le (s.len.toNat - 8) marker
  rw [hlen, BitVec.toNat_ofNat]
  exact (Nat.mod_le _ _).trans (by omega)

theorem State.encrypt_len_le (hok : (s.encrypt cfg par).err = false) :
    (s.encrypt cfg par).len.toNat ≤ cfg.bufCap := by
  rcases s.encrypt_cases cfg par with ⟨c, hc, h⟩ | ⟨hfit, h⟩
  · exact absurd hok (by simp [h, hc])
  · exact h ▸ State.encryptBody_len_le hfit

theorem State.decrypt_len_le (hok : (s.decrypt cfg par).err = false) :
    (s.decrypt cfg par).len.toNat ≤ cfg.bufCap := by
  rcases s.decrypt_cases cfg par with ⟨c, hc, h⟩ | ⟨-, hfit, h⟩
  · exact absurd hok (by simp [h, hc])
  · exact h ▸ State.decryptBody_len_le hfit

end

/-- Settles O26: the CAPACITY and LEN_RANGE checks leave no longer result. -/
theorem successfulLengthFits : Obligations.SuccessfulLengthFits := by
  unfold Obligations.SuccessfulLengthFits
  rintro par s t (h | h) hok <;> injection h with h <;> subst h
  · exact State.encrypt_len_le hok
  · exact State.decrypt_len_le hok

/-! ## The life of KEY, KEY_VALID and OVR -/

/-- What a step does to the key registers: nothing, or what a LOADKEY in flight writes, or what a reset writes. -/
theorem step_keyState {s t : State} (h : step s = .next t) :
    t.keyState = s.keyState ∨
    (s.busy = true ∧ decode s.pend = .command .loadkey ∧ t.key = s.keyin ∧ t.err = false ∧ t.keyValid = true) ∨
    (t.resets = s.resets + 1 ∧ t.key = Vector.replicate 16 0 ∧ t.keyValid = false) := by
  rcases step_cases h with ⟨ts, i, hb, hd, he⟩ | ⟨ts, r, -, -, rfl⟩ | ⟨ts, rfl⟩ | ⟨ts, rfl⟩ | ⟨ts, rfl⟩
  · cases i with
    | loadkey =>
      injection he with he
      subst he
      exact .inr (.inl ⟨hb, hd, rfl, rfl, rfl⟩)
    | encrypt par =>
      injection he with he
      exact .inl (he ▸ State.encrypt_keyState Config.chip (s.setTurns ts) par)
    | decrypt par =>
      injection he with he
      exact .inl (he ▸ State.decrypt_keyState Config.chip (s.setTurns ts) par)
  · exact .inl rfl
  · exact .inl (State.hostStep_keyState Config.chip (s.setTurns ts))
  · exact .inr (.inr ⟨rfl, rfl, rfl⟩)
  · exact .inl rfl

/-- Settles O36, by what a step does to the key registers. -/
theorem onlyLoadkeyWritesKey : Obligations.OnlyLoadkeyWritesKey := by
  unfold Obligations.OnlyLoadkeyWritesKey
  intro s t h hne
  rcases step_keyState h with hk | hload | hreset
  · exact absurd (congrArg KeyState.key hk) hne
  · exact .inl hload
  · exact .inr hreset

/-- Settles O37, by what a step does to the key registers. -/
theorem keyValidLifetime : Obligations.KeyValidLifetime := by
  unfold Obligations.KeyValidLifetime
  intro s t h
  rcases step_keyState h with hk | ⟨hb, hd, -, -, hv⟩ | ⟨hr, -, hv⟩
  · have same : t.keyValid = s.keyValid := congrArg KeyState.keyValid hk
    simp +contextual [same]
  · exact ⟨fun _ _ => ⟨hb, hd⟩, fun _ h => absurd (hv.symm.trans h) (by decide)⟩
  · exact ⟨fun _ h => absurd (hv.symm.trans h) (by decide), fun _ _ => hr⟩

section
variable (cfg : Config) (s : State)

/-- A command leaves OVR. -/
theorem State.encrypt_ovr (par : Bool) : (s.encrypt cfg par).ovr = s.ovr := by
  rcases s.encrypt_cases cfg par with ⟨c, -, h⟩ | ⟨-, h⟩ <;> simp [h, State.encryptBody]

theorem State.decrypt_ovr (par : Bool) : (s.decrypt cfg par).ovr = s.ovr := by
  rcases s.decrypt_cases cfg par with ⟨c, -, h⟩ | ⟨-, -, h⟩ <;> simp [h, State.decryptBody]

theorem exec_ovr {s t : State} {i : Instr} (h : exec i s = .next t) : t.ovr = s.ovr := by
  cases i <;> injection h with h <;> subst h
  · rfl
  · exact s.encrypt_ovr _ _
  · exact s.decrypt_ovr _ _

variable {cfg s}

/-- OVR stays, or an accepted CMD write has cleared it: 10_state.md R28. -/
def State.ovrKept (s t : State) : Prop := t.ovr = true ∨ (s.busy = false ∧ t.busy = true)

/-- A CMD write is permitted only while BUSY is 0. -/
theorem State.idle_of_permits_cmd {v : Word} (hp : s.permits cfg (.write32 0x000 v) = true) : s.busy = false := by
  by_contra hb
  exact absurd (State.busyWriteOk_of_permits (x := .cmd) (by simpa using hb) hp rfl rfl) Bool.false_ne_true

theorem State.writeEffect_ovrKept (ho : s.ovr = true) {a : HostAccess} (hp : s.permits cfg a = true) :
    s.ovrKept (s.writeEffect cfg a) := by
  rcases s.writeEffect_cases cfg a with
    ⟨v, rfl, h⟩ | ⟨_, _, h⟩ | ⟨_, _, _, _, _, h⟩ | ⟨_, _, _, _, _, h⟩ | ⟨_, _, _, _, _, h⟩ | h <;> rw [h]
  · exact .inr ⟨State.idle_of_permits_cmd hp, rfl⟩
  all_goals exact .inl ho

theorem State.hostAccess_ovrKept (ho : s.ovr = true) (a : HostAccess) : s.ovrKept (s.hostAccess cfg a) := by
  refine s.hostAccess_induct cfg s.ovrKept a (fun _ _ h => h) (fun _ _ h => h) (fun _ h => h) (fun _ => .inl ?_)
    (fun hp => State.writeEffect_ovrKept ho hp)
  rcases s.violationEffect_cases cfg a with ⟨_, _, _, _, _, h⟩ | h <;> rw [h]
  · rfl
  · exact ho

theorem State.hostStep_ovrKept (ho : s.ovr = true) : s.ovrKept (s.hostStep cfg) := by
  rcases s.hostStep_cases cfg with h | ⟨a, p, p', h | h⟩ <;> rw [h]
  · exact .inl ho
  · exact State.hostAccess_ovrKept (s := s.setProgram p) ho a
  · exact State.hostAccess_ovrKept (s := s.setProgram p) ho a

end

/-- Settles O38: of the agents only the host's accepted CMD write and a reset clear OVR. -/
theorem overrunStaysUntilAccept : Obligations.OverrunStaysUntilAccept := by
  unfold Obligations.OverrunStaysUntilAccept
  intro s t h ho hc
  have cleared : s.ovrKept t → s.busy = false ∧ t.busy = true :=
    fun hk => hk.resolve_left (by simp [hc])
  rcases step_cases h with ⟨ts, i, -, -, he⟩ | ⟨ts, r, -, -, rfl⟩ | ⟨ts, rfl⟩ | ⟨ts, rfl⟩ | ⟨ts, rfl⟩
  · exact .inl (cleared (.inl ((exec_ovr he).trans ho)))
  · exact .inl (cleared (.inl ho))
  · exact .inl (cleared (State.hostStep_ovrKept (s := s.setTurns ts) ho))
  · exact .inr rfl
  · exact .inl (cleared (.inl ho))

/-! ## A 32-bit access to a register -/

section
variable {cfg : Config} {s : State} {a : Nat} {v : Word}

/-- Every aligned offset below BUF takes 32-bit accesses (20_memory.md R50). -/
theorem widthOk32_of_lt (ha : a % 4 = 0) (hlt : a < bufBase) : widthOk32 cfg a = true := by
  cases hx : targetOf cfg a with
  | buf j =>
    simp only [targetOf] at hx
    split_ifs at hx
    omega
  | _ => simp [widthOk32, ha, hx]

theorem State.permits_write32 (v : Word) (ha : a % 4 = 0) (hlt : a < bufBase) :
    s.permits cfg (.write32 a v) = (!s.busy || s.busyWriteOk (targetOf cfg a)) := by
  simp [State.permits, HostAccess.widthOk, widthOk32_of_lt ha hlt, HostAccess.kind, AccessKind.isRead, HostAccess.offset]

theorem State.permits_read32 (ha : a % 4 = 0) (hlt : a < bufBase) :
    s.permits cfg (.read32 a) = (!s.busy || (targetOf cfg a).busyReadOk) := by
  simp [State.permits, HostAccess.widthOk, widthOk32_of_lt ha hlt, HostAccess.kind, AccessKind.isRead, HostAccess.offset]

theorem State.hostAccess_of_permits {b : HostAccess} (hp : s.permits cfg b = true) :
    s.hostAccess cfg b = (s.writeEffect cfg b).record b (s.readValue cfg b).toNat := by
  rw [State.hostAccess, if_pos hp]

theorem State.hostAccess_of_not_permits {b : HostAccess} (hp : s.permits cfg b = false) :
    s.hostAccess cfg b = (((s.violationEffect cfg b).setMark { kind := b.kind, offset := b.offset }).record b
      (s.violationValue cfg b)).useFree := by
  rw [State.hostAccess, if_neg (by simp [hp])]

/-- A register write that the host may make: while idle, or one that R156 lists. -/
theorem State.hostAccess_write32 (h : s.busy = false ∨ s.busyWriteOk (targetOf cfg a) = true) (ha : a % 4 = 0)
    (hlt : a < bufBase) : s.hostAccess cfg (.write32 a v) = s.write32 cfg a v :=
  State.hostAccess_of_permits (by rw [State.permits_write32 v ha hlt]; simpa using h)

/-- A register read that the host may make: while idle, or one that R156 lists. -/
theorem State.reads_read32 (h : s.busy = false ∨ (targetOf Config.chip a).busyReadOk = true) (ha : a % 4 = 0)
    (hlt : a < bufBase) : s.reads (.read32 a) (s.read32Value Config.chip a) :=
  State.hostAccess_of_permits (by rw [State.permits_read32 ha hlt]; simpa using h)

theorem targetOf_keyin (cfg : Config) {w : Nat} (hw : w < 4) : targetOf cfg (0x010 + 4 * w) = .keyin w := by
  match w, hw with
  | 0, _ | 1, _ | 2, _ | 3, _ => rfl

theorem targetOf_key (cfg : Config) {w : Nat} (hw : w < 4) : targetOf cfg (0x020 + 4 * w) = .key w := by
  match w, hw with
  | 0, _ | 1, _ | 2, _ | 3, _ => rfl

theorem targetOf_eq_cmd_iff : targetOf cfg a = .cmd ↔ a = 0x000 := by
  simp only [targetOf]
  split_ifs <;> simp_all

end

/-! ## The bytes of a register -/

theorem byteLane_wordOfBytes (g : Nat → Byte) {b : Nat} (hb : b < 4) :
    byteLane (wordOfBytes (g 0) (g 1) (g 2) (g 3)) b = g b := by
  match b, hb with
  | 0, _ | 1, _ | 2, _ | 3, _ =>
    simp (disch := omega) only [byteLane, wordOfBytes, BitVec.extractLsb'_append_eq_of_le,
      BitVec.extractLsb'_append_eq_of_add_le]
    simp

theorem byteLane_fileWord (v : Vector Byte 16) (w : Nat) {b : Nat} (hb : b < 4) :
    byteLane (fileWord v w) b = fileByte v (4 * w + b) :=
  byteLane_wordOfBytes (fun b => fileByte v (4 * w + b)) hb

theorem fileWord_eq_zero {v : Vector Byte 16} (h : ∀ k, fileByte v k = 0) (w : Nat) : fileWord v w = 0 := by
  simp only [fileWord, h]
  decide

theorem fileByte_setFileByte (v : Vector Byte 16) (k : Nat) (b : Byte) (j : Nat) :
    fileByte (setFileByte v k b) j = if k % 16 = j % 16 then b else fileByte v j :=
  Vector.getElem_set ..

/-- A register write changes its own four bytes (20_memory.md R47, R52). -/
theorem fileByte_setFileWord (v : Vector Byte 16) {w : Nat} (hw : w < 4) (x : Word) {j : Nat} (hj : j < 16) :
    fileByte (setFileWord v w x) j = if j / 4 = w then byteLane x (j % 4) else fileByte v j := by
  simp only [setFileWord, fileByte_setFileByte]
  by_cases h : j / 4 = w
  · obtain ⟨b, hb, rfl⟩ : ∃ b < 4, j = 4 * w + b := ⟨j % 4, by omega, by omega⟩
    rw [if_pos h, Nat.mul_add_mod, Nat.mod_eq_of_lt hb]
    match b, hb with
    | 0, _ | 1, _ | 2, _ | 3, _ => simp (disch := omega) only [if_neg, if_pos, if_true]
  · rw [if_neg (by omega), if_neg (by omega), if_neg (by omega), if_neg (by omega), if_neg h]

/-- Settles O45: KEYIN takes a write at any time but with a LOADKEY in flight, when R153 (b) forbids it. -/
theorem keyinRegisters : Obligations.KeyinRegisters := by
  unfold Obligations.KeyinRegisters
  intro s w v hw
  have hx := targetOf_keyin Config.chip hw
  have aligned : (0x010 + 4 * w) % 4 = 0 := by omega
  have below : 0x010 + 4 * w < bufBase := by unfold bufBase; omega
  have hread := State.reads_read32 (s := s) (.inr (by rw [hx]; rfl)) aligned below
  rw [State.read32Value, hx] at hread
  refine ⟨fun hfree => ⟨setFileWord s.keyin w v, ?_, fun b hb => ?_, fun j hj hne => ?_⟩,
    ⟨_, hread, fun b hb => byteLane_fileWord s.keyin w hb⟩, fun hb hd => ?_⟩
  · have allowed : s.busy = false ∨ s.busyWriteOk (targetOf Config.chip (0x010 + 4 * w)) = true := by
      by_cases hb : s.busy = true
      · exact .inr (by simp [hx, State.busyWriteOk, State.loadkeyInFlight, hfree hb])
      · exact .inl (by simpa using hb)
    rw [State.hostAccess_write32 allowed aligned below, State.write32, hx]
    rfl
  · rw [fileByte_setFileWord _ hw _ (by omega), if_pos (by omega), Nat.mul_add_mod, Nat.mod_eq_of_lt hb]
  · rw [fileByte_setFileWord _ hw _ hj, if_neg hne]
  · rw [State.permits_write32 v aligned below, hx]
    simp [State.busyWriteOk, State.loadkeyInFlight, hb, hd]

/-- Settles O46: R156 lists a KEY read, and R41 (e) makes the bytes 0 before the first key. -/
theorem keyView : Obligations.KeyView := by
  unfold Obligations.KeyView
  intro s w hw
  have hx := targetOf_key Config.chip hw
  have hread := State.reads_read32 (s := s) (.inr (by rw [hx]; rfl)) (by omega) (by unfold bufBase; omega)
  rw [State.read32Value, hx] at hread
  exact ⟨_, hread, fun b hb => byteLane_fileWord s.key w hb, fun hzero hv => fileWord_eq_zero (hzero hv) w⟩

/-! ## Violations -/

section
variable (cfg : Config) (s : State)

theorem State.violationEffect_eq (a : HostAccess) :
    s.violationEffect cfg a =
      { s with ovr := if s.busy = true ∧ a.kind = .write32 ∧ a.offset = 0x000 then true else s.ovr } := by
  cases a with
  | write32 x v =>
    simp only [State.violationEffect, HostAccess.kind, HostAccess.offset, targetOf_eq_cmd_iff, true_and]
    split <;> rfl
  | _ => simp [State.violationEffect, HostAccess.kind]

theorem State.setMark_eq (v : Violation) :
    s.setMark v = { s with mark := if s.mark = none then some v else s.mark } := by
  cases h : s.mark <;> simp [State.setMark, h]

/-- What the host records of an access: nothing of a write. -/
def HostAccess.readingsOf (a : HostAccess) (value : Nat) : List Reading :=
  if a.kind.isRead then [{ kind := a.kind, offset := a.offset, value := value }] else []

theorem State.record_eq_append (a : HostAccess) (value : Nat) :
    s.record a value = { s with readings := s.readings ++ a.readingsOf value } := by
  simp only [State.record, HostAccess.readingsOf]
  split
  · rfl
  · rw [List.append_nil]

/-- A violating access as a whole (70_reset_and_hazards.md R157). -/
theorem State.hostAccess_violation {a : HostAccess} (hp : s.permits cfg a = false) :
    s.hostAccess cfg a =
      { s with
        mark := if s.mark = none then some { kind := a.kind, offset := a.offset } else s.mark
        ovr := if s.busy = true ∧ a.kind = .write32 ∧ a.offset = 0x000 then true else s.ovr
        readings := s.readings ++ a.readingsOf (s.violationValue cfg a), frees := s.frees + 1 } := by
  rw [State.hostAccess_of_not_permits hp, State.violationEffect_eq, State.setMark_eq, State.record_eq_append]
  rfl

end

/-- Settles O54: what a violating access records is as wide as the access. -/
theorem violationOnlyMarks : Obligations.ViolationOnlyMarks := by
  unfold Obligations.ViolationOnlyMarks
  intro s a hp
  refine ⟨_, s.hostAccess_violation Config.chip hp, fun hw => by simp [HostAccess.readingsOf, hw], fun hr => ?_⟩
  exact ⟨_, s.violationValue_lt Config.chip a, by simp [HostAccess.readingsOf, hr]⟩

/-! ## OFF and the idle engine -/

/-- Settles O24: OFFSET_GEN and EXTRACT overwrite OFF before a pass reads it, and an error releases it. -/
theorem oldOffsetsAreNeverRead : Obligations.OldOffsetsAreNeverRead := by
  unfold Obligations.OldOffsetsAreNeverRead
  intro s o par
  refine ⟨?_, ?_, _, rfl, rfl⟩
  · have same : ({ s with off := o } : State).encryptError Config.chip = s.encryptError Config.chip := rfl
    simp only [exec, execEncrypt, State.encrypt, same]
    cases s.encryptError Config.chip <;> rfl
  · have same : ({ s with off := o } : State).decryptError Config.chip = s.decryptError Config.chip := rfl
    simp only [exec, execDecrypt, State.decrypt, same]
    cases s.decryptError Config.chip <;> rfl

theorem State.engineTurn_of_idle {s : State} (hb : s.busy = false) : s.engineTurn = .next s := by
  simp [State.engineTurn, hb]

/-- Settles O29. -/
theorem idleEngineDoesNothing : Obligations.IdleEngineDoesNothing := by
  unfold Obligations.IdleEngineDoesNothing
  intro s ts hb ht
  exact (step_of_turns_engine ht).trans (State.engineTurn_of_idle hb)

/-! ## CMD, STATUS, LEN, CAP and the read-only registers -/

/-- Settles O41. -/
theorem cmdWriteAccepts : Obligations.CmdWriteAccepts := by
  unfold Obligations.CmdWriteAccepts
  intro s w hb
  exact ⟨State.hostAccess_write32 (.inl hb) rfl (by decide), State.reads_read32 (.inl hb) rfl (by decide)⟩

/-- Settles O42: with BUSY 1 a CMD write is a violation, the one that sets OVR. -/
theorem cmdWriteWhileBusyOverruns : Obligations.CmdWriteWhileBusyOverruns := by
  unfold Obligations.CmdWriteWhileBusyOverruns
  intro s w hb
  have hp : s.permits Config.chip (.write32 0x000 w) = false := by
    rw [State.permits_write32 w rfl (by decide), hb]
    rfl
  rw [s.hostAccess_violation Config.chip hp]
  simp [HostAccess.readingsOf, HostAccess.kind, HostAccess.offset, AccessKind.isRead, hb]

theorem State.statusWord_flags (s : State) :
    s.statusWord.getLsbD 0 = s.busy ∧ s.statusWord.getLsbD 1 = s.done ∧ s.statusWord.getLsbD 2 = s.err ∧
    s.statusWord.getLsbD 3 = s.keyValid ∧ s.statusWord.getLsbD 4 = s.ovr := by
  simp only [State.statusWord, BitVec.getLsbD_append]
  exact ⟨by simp, by simp, by simp, by simp, by simp⟩

theorem State.statusWord_errcode (s : State) {k : Nat} (hk : k < 4) :
    s.statusWord.getLsbD (8 + k) = s.errcode.getLsbD k := by
  simp only [State.statusWord, BitVec.getLsbD_append]
  match k, hk with
  | 0, _ | 1, _ | 2, _ | 3, _ => simp

theorem State.statusWord_reserved (s : State) {k : Nat} (hk : (5 ≤ k ∧ k < 8) ∨ 12 ≤ k) :
    s.statusWord.getLsbD k = false := by
  simp only [State.statusWord, BitVec.getLsbD_append]
  rcases hk with ⟨hlow, hhigh⟩ | hk
  · simp (disch := omega) only [if_neg, if_pos, BitVec.getLsbD_zero]
  · simp (disch := omega) only [if_neg, BitVec.getLsbD_zero]

/-- Settles O43. -/
theorem statusFields : Obligations.StatusFields := by
  unfold Obligations.StatusFields
  intro s
  obtain ⟨hbusy, hdone, herr, hvalid, hovr⟩ := s.statusWord_flags
  exact ⟨State.reads_read32 (.inr rfl) rfl (by decide), hbusy, hdone, herr, hvalid, hovr,
    fun _ hk => s.statusWord_errcode hk, fun _ hk => s.statusWord_reserved hk⟩

/-- Settles O44. -/
theorem lenAndCapRegisters : Obligations.LenAndCapRegisters := by
  unfold Obligations.LenAndCapRegisters
  intro s v
  refine ⟨fun hb => ⟨?_, ?_⟩, BitVec.ofNat 32 Config.chip.bufCap, ?_, Config.chip.bufCap_toNat⟩
  · exact State.hostAccess_write32 (.inl hb) rfl (by decide)
  · exact State.reads_read32 (.inl hb) rfl (by decide)
  · exact State.reads_read32 (.inr rfl) rfl (by decide)

/-- Settles O50. -/
theorem readOnlyRegistersIgnoreWrites : Obligations.ReadOnlyRegistersIgnoreWrites := by
  unfold Obligations.ReadOnlyRegistersIgnoreWrites
  intro s v a hb ha
  have accepted : s.hostAccess Config.chip (.write32 a v) = s.write32 Config.chip a v :=
    State.hostAccess_write32 (.inl hb) (by omega) (by unfold bufBase; omega)
  rw [accepted]
  rcases ha with rfl | rfl | rfl | rfl | rfl | rfl <;> rfl

end Sys2Proof.Machine

/-! Proofs of the family 20_memory.md: which accesses the block permits, the BUF window and the reserved space as the
host reads and writes them, the host's turn, and the frame of ENCRYPT and DECRYPT. -/

namespace Sys2Proof.Machine

/-! ## Address decode and width -/

section
variable {cfg : Config} {a : Nat}

/-- The BUF window is decoded by the position alone (20_memory.md R45). -/
theorem targetOf_buf_iff {j : Nat} : targetOf cfg a = .buf j ↔ a = 0x1000 + j ∧ j < cfg.bufCap := by
  simp only [targetOf, bufBase]
  split_ifs <;> simp only [Target.buf.injEq, false_iff] <;> omega

/-- What lies above the registers and outside the BUF window is reserved (20_memory.md R45). -/
theorem targetOf_reserved (ha : (0x030 ≤ a ∧ a < 0x1000) ∨ 0x1000 + cfg.bufCap ≤ a) : targetOf cfg a = .reserved := by
  simp (disch := omega) only [targetOf, bufBase, if_neg]

/-- An aligned 32-bit access is cut off by the end of BUF or permitted (20_memory.md R50, R51). -/
theorem widthOk32_iff : widthOk32 cfg a = true ↔
    a % 4 = 0 ∧ (a < 0x1000 ∨ 0x1000 + cfg.bufCap ≤ a ∨ a + 3 < 0x1000 + cfg.bufCap) := by
  by_cases hin : 0x1000 ≤ a ∧ a < 0x1000 + cfg.bufCap
  · have hx : targetOf cfg a = .buf (a - 0x1000) := targetOf_buf_iff.2 (by omega)
    simp only [widthOk32, hx, Bool.and_eq_true, decide_eq_true_eq]
    omega
  · have outside : ∀ j, targetOf cfg a ≠ .buf j := fun j hx => by
      have := targetOf_buf_iff.1 hx
      omega
    cases hx : targetOf cfg a with
    | buf j => exact absurd hx (outside j)
    | _ =>
      simp only [widthOk32, hx, Bool.and_true, decide_eq_true_eq]
      omega

/-- The permitted widths and alignments of 20_memory.md R50, every other access being one of R51 and R153 (d). -/
theorem HostAccess.widthOk_iff {a : HostAccess} : a.widthOk cfg = true ↔
    ((a.kind = .read8 ∨ a.kind = .write8) ∧ 0x030 ≤ a.offset) ∨
      ((a.kind = .read32 ∨ a.kind = .write32) ∧ a.offset % 4 = 0 ∧
        (a.offset < 0x1000 ∨ 0x1000 + cfg.bufCap ≤ a.offset ∨ a.offset + 3 < 0x1000 + cfg.bufCap)) := by
  cases a <;> simp [HostAccess.widthOk, HostAccess.kind, HostAccess.offset, widthOk8, widthOk32_iff]

end

/-! ## What the host may access -/

section
variable {cfg : Config} {s : State} {a : HostAccess}

theorem State.permits_of_idle (hb : s.busy = false) : s.permits cfg a = a.widthOk cfg := by
  simp [State.permits, hb]

theorem State.widthOk_of_permits (hp : s.permits cfg a = true) : a.widthOk cfg = true :=
  ((Bool.and_eq_true _ _).mp hp).1

/-- A target that R156 lists for no read and no write is out of reach while BUSY. -/
theorem State.not_permits_of_busy (hb : s.busy = true) (hr : (targetOf cfg a.offset).busyReadOk = false)
    (hw : s.busyWriteOk (targetOf cfg a.offset) = false) : s.permits cfg a = false := by
  simp [State.permits, hb, hr, hw]

/-- The reserved space is within reach at any time (70_reset_and_hazards.md R156). -/
theorem State.permits_of_reserved (hw : a.widthOk cfg = true) (hx : targetOf cfg a.offset = .reserved) :
    s.permits cfg a = true := by
  simp [State.permits, hw, hx, Target.busyReadOk, State.busyWriteOk]

end

/-- Settles O53: while idle only the width counts. -/
theorem permittedWhileIdle : Obligations.PermittedWhileIdle := by
  unfold Obligations.PermittedWhileIdle
  intro s a hb hwidth
  rw [State.permits_of_idle hb]
  exact HostAccess.widthOk_iff.2 hwidth

/-! ## Violations of the host protocol (70_reset_and_hazards.md R153) -/

section
variable {cfg : Config} {s : State} {a : HostAccess}

/-- R153 (a): any access to LEN or BUF while BUSY. -/
theorem State.not_permits_len_or_buf (hb : s.busy = true)
    (ha : a.offset = 0x008 ∨ (0x1000 ≤ a.offset ∧ a.offset < 0x1000 + cfg.bufCap)) : s.permits cfg a = false := by
  have hx : targetOf cfg a.offset = .len ∨ ∃ j, targetOf cfg a.offset = .buf j := by
    rcases ha with ha | ha
    · exact .inl (by rw [ha]; rfl)
    · exact .inr ⟨a.offset - 0x1000, targetOf_buf_iff.2 (by omega)⟩
  rcases hx with hx | ⟨j, hx⟩ <;> exact State.not_permits_of_busy hb (by rw [hx]; rfl) (by rw [hx]; rfl)

/-- R153 (b): a write to KEYIN with a LOADKEY in flight; one that is not aligned has no permitted width. -/
theorem State.not_permits_keyin_write (hb : s.busy = true) (hd : decode s.pend = .command .loadkey)
    (hw : a.kind.isRead = false) (hlow : 0x010 ≤ a.offset) (hhigh : a.offset < 0x020) : s.permits cfg a = false := by
  refine Bool.eq_false_iff.2 fun hp => ?_
  have aligned : a.offset % 4 = 0 := by
    rcases HostAccess.widthOk_iff.1 (State.widthOk_of_permits hp) with ⟨-, hoff⟩ | ⟨-, hoff, -⟩ <;> omega
  obtain ⟨w, hlt, hoff⟩ : ∃ w < 4, a.offset = 0x010 + 4 * w := ⟨(a.offset - 0x010) / 4, by omega, by omega⟩
  have hok := State.busyWriteOk_of_permits hb hp hw (hoff ▸ targetOf_keyin cfg hlt)
  simp [State.busyWriteOk, State.loadkeyInFlight, hb, hd] at hok

/-- R153 (c): a write to CMD while BUSY. -/
theorem State.not_permits_cmd_write (hb : s.busy = true) (hw : a.kind.isRead = false) (ha : a.offset = 0x000) :
    s.permits cfg a = false := by
  refine Bool.eq_false_iff.2 fun hp => ?_
  exact Bool.false_ne_true (State.busyWriteOk_of_permits (x := .cmd) hb hp hw (by rw [ha]; rfl))

end

/-- Settles O52: the last item is what R50 does not list. -/
theorem protocolViolations : Obligations.ProtocolViolations := by
  unfold Obligations.ProtocolViolations
  intro s a
  refine ⟨State.not_permits_len_or_buf, State.not_permits_keyin_write, State.not_permits_cmd_write,
    fun ha => Bool.eq_false_iff.2 fun hp => ?_⟩
  rcases HostAccess.widthOk_iff.1 (State.widthOk_of_permits hp) with ⟨hk | hk, hoff⟩ | ⟨hk | hk, hoff⟩ <;>
    · simp only [hk, reduceCtorEq, false_or, or_true, true_and, false_and, or_false, exists_false] at ha
      omega

/-! ## What a permitted access does -/

section
variable {cfg : Config} {s : State} {a : HostAccess}

/-- A read has no effect on the block (20_memory.md R53). -/
theorem State.writeEffect_of_read (hr : a.kind.isRead = true) : s.writeEffect cfg a = s := by
  cases a with
  | write8 | write16 | write32 | writeOther => exact absurd hr Bool.false_ne_true
  | _ => rfl

/-- A permitted read only adds its value to what the host has read. -/
theorem State.hostAccess_read (hr : a.kind.isRead = true) (hp : s.permits cfg a = true) :
    s.hostAccess cfg a =
      s.addReading { kind := a.kind, offset := a.offset, value := (s.readValue cfg a).toNat } := by
  rw [State.hostAccess_of_permits hp, State.writeEffect_of_read hr, State.record, if_pos hr]

theorem State.reads_of_permits (hr : a.kind.isRead = true) (hp : s.permits Config.chip a = true) :
    s.reads a (s.readValue Config.chip a) :=
  State.hostAccess_read hr hp

/-- A permitted write records nothing. -/
theorem State.hostAccess_write (hw : a.kind.isRead = false) (hp : s.permits cfg a = true) :
    s.hostAccess cfg a = s.writeEffect cfg a := by
  rw [State.hostAccess_of_permits hp, State.record, if_neg (by simp [hw])]

@[simp] theorem State.addReading_permits (r : Reading) : (s.addReading r).permits cfg a = s.permits cfg a := rfl

@[simp] theorem State.addReading_readValue (r : Reading) : (s.addReading r).readValue cfg a = s.readValue cfg a := rfl

end

/-- Settles O51: the reading that a read leaves decides neither what is permitted nor what is read. -/
theorem readsHaveNoSideEffect : Obligations.ReadsHaveNoSideEffect := by
  unfold Obligations.ReadsHaveNoSideEffect
  intro s a hr hp
  refine ⟨s.readValue Config.chip a, State.reads_of_permits hr hp, ?_⟩
  rw [State.hostAccess_read hr hp]
  simpa using State.reads_of_permits (s := s.addReading _) hr (by simpa using hp)

/-! ## The reserved space -/

/-- Settles O49: R156 lists the reserved space, so its accesses are permitted at any time. -/
theorem reservedSpaceIsRazWi : Obligations.ReservedSpaceIsRazWi := by
  unfold Obligations.ReservedSpaceIsRazWi
  intro s a b v ha
  have hx : targetOf Config.chip a = .reserved := targetOf_reserved ha
  have byteOk : widthOk8 a = true := by
    simp only [widthOk8, registersEnd, decide_eq_true_eq]
    omega
  have wordOk (ha4 : a % 4 = 0) : widthOk32 Config.chip a = true := widthOk32_iff.2 ⟨ha4, by omega⟩
  refine ⟨?_, ?_, fun ha4 => ⟨?_, ?_⟩⟩
  · have hread := State.reads_of_permits (s := s) (a := .read8 a) rfl (State.permits_of_reserved byteOk hx)
    simpa [State.readValue, State.read8Value, hx] using hread
  · rw [State.hostAccess_write (a := .write8 a b) rfl (State.permits_of_reserved byteOk hx)]
    simp only [State.writeEffect, State.write8, hx]
  · have hread := State.reads_of_permits (s := s) (a := .read32 a) rfl (State.permits_of_reserved (wordOk ha4) hx)
    simpa [State.readValue, State.read32Value, hx] using hread
  · rw [State.hostAccess_write (a := .write32 a v) rfl (State.permits_of_reserved (wordOk ha4) hx)]
    simp only [State.writeEffect, State.write32, hx]

/-! ## The BUF window -/

section
variable {cfg : Config} {s : State} {j : Nat}

theorem targetOf_buf (hj : j < cfg.bufCap) : targetOf cfg (0x1000 + j) = .buf j := targetOf_buf_iff.2 ⟨rfl, hj⟩

theorem widthOk8_buf : widthOk8 (0x1000 + j) = true := by
  simp only [widthOk8, registersEnd, decide_eq_true_eq]
  omega

theorem widthOk32_buf (hj : j % 4 = 0) (hin : j + 3 < cfg.bufCap) : widthOk32 cfg (0x1000 + j) = true :=
  widthOk32_iff.2 (by omega)

/-- A word's number from its bytes, the byte of lowest address counting least (20_memory.md R47). -/
theorem wordOfBytes_toNat (b0 b1 b2 b3 : Byte) :
    (wordOfBytes b0 b1 b2 b3).toNat =
      b0.toNat + 256 * b1.toNat + 65536 * b2.toNat + 16777216 * b3.toNat := by
  simp only [wordOfBytes, BitVec.toNat_append, ← Nat.shiftLeft_add_eq_or_of_lt b0.isLt,
    ← Nat.shiftLeft_add_eq_or_of_lt b1.isLt, ← Nat.shiftLeft_add_eq_or_of_lt b2.isLt]
  simp only [Nat.shiftLeft_eq]
  omega

theorem State.bufByte_setBufWord (v : Word) (i : Nat) :
    (s.setBufWord j v).bufByte cfg i = if j ≤ i ∧ i ≤ j + 3 then byteLane v (i - j) else s.bufByte cfg i := by
  simp only [State.bufByte, State.setBufWord, Memory.byte_fill, Nat.lt_succ_iff]

end

/-- Settles O47. -/
theorem bufferReads : Obligations.BufferReads := by
  unfold Obligations.BufferReads
  intro s j hb
  refine ⟨fun hj => ?_, fun hj4 hin => ⟨_, ?_, wordOfBytes_toNat _ _ _ _⟩⟩
  · have hread := State.reads_of_permits (s := s) (a := .read8 (0x1000 + j)) rfl
      ((State.permits_of_idle hb).trans widthOk8_buf)
    simpa only [State.readValue, State.read8Value, targetOf_buf hj] using hread
  · have hread := State.reads_of_permits (s := s) (a := .read32 (0x1000 + j)) rfl
      ((State.permits_of_idle hb).trans (widthOk32_buf hj4 hin))
    simpa only [State.readValue, State.read32Value, targetOf_buf (show j < Config.chip.bufCap by omega)] using hread

/-- Settles O48. -/
theorem bufferWrites : Obligations.BufferWrites := by
  unfold Obligations.BufferWrites
  intro s j b v hb
  refine ⟨fun hj => ⟨(s.setBufByte j b).mem, ?_, fun i => ?_⟩, fun hj4 hin => ⟨(s.setBufWord j v).mem, ?_, fun i => ?_⟩⟩
  · rw [State.hostAccess_write (a := .write8 (0x1000 + j) b) rfl ((State.permits_of_idle hb).trans widthOk8_buf)]
    simp only [State.writeEffect, State.write8, targetOf_buf hj]
    rfl
  · simp only [eq_comm (a := i)]
    exact s.bufByte_setBufByte Config.chip j b i
  · rw [State.hostAccess_write (a := .write32 (0x1000 + j) v) rfl
      ((State.permits_of_idle hb).trans (widthOk32_buf hj4 hin))]
    simp only [State.writeEffect, State.write32, targetOf_buf (show j < Config.chip.bufCap by omega)]
    rfl
  · exact State.bufByte_setBufWord v i

/-! ## The frame of ENCRYPT and DECRYPT -/

/-- The state without what ENCRYPT and DECRYPT may write: STATUS but KEY_VALID and OVR, PEND, LEN, BUF, OFF and the
counts of draws and free values. -/
def State.transformFrame (s : State) : State :=
  { s with
    busy := false, done := false, err := false, errcode := 0, pend := 0, len := 0
    off := Vector.replicate 8 0, mem := [], draws := 0, frees := 0 }

section
variable {cfg : Config} (s : State) (par : Bool)

theorem State.encrypt_transformFrame : (s.encrypt cfg par).transformFrame = s.transformFrame := by
  rcases s.encrypt_cases cfg par with ⟨c, -, h⟩ | ⟨-, h⟩ <;>
    simp [h, State.transformFrame, State.encryptBody]

theorem State.decrypt_transformFrame : (s.decrypt cfg par).transformFrame = s.transformFrame := by
  rcases s.decrypt_cases cfg par with ⟨c, -, h⟩ | ⟨-, -, h⟩ <;>
    simp [h, State.transformFrame, State.decryptBody]

variable {s par} {j : Nat}

@[simp] theorem State.bufByte_complete : s.complete.bufByte cfg j = s.bufByte cfg j := rfl

/-- A result that fits BUF fits LEN (R9's bound on BUF_CAP). -/
theorem State.encryptBody_len (hfit : max 16 s.len.toNat + 9 ≤ cfg.bufCap) :
    (s.encryptBody cfg par).len.toNat = max 16 s.len.toNat + 9 := by
  have hlen : (s.encryptBody cfg par).len = BitVec.ofNat 32 (markerPos s.len.toNat + 1 + 8) := rfl
  have hcap := cfg.bufCap_le
  rw [hlen, markerPos_eq, BitVec.toNat_ofNat, Nat.mod_eq_of_lt (by omega)]

/-- The stages of an ENCRYPT write below the end of the result only (45_transform.md R115). -/
theorem State.bufByte_encryptBody_of_le (hj : max 16 s.len.toNat + 9 ≤ j) :
    (s.encryptBody cfg par).bufByte cfg j = s.bufByte cfg j := by
  simp (disch := omega) only [State.encryptBody, State.bufByte_complete, State.bufByte_releaseOff,
    State.bufByte_setLen, State.bufByte_embed, State.bufByte_mix, State.bufByte_offsetGen, State.bufByte_normalize,
    markerPos_eq, if_neg]

/-- The stages of a DECRYPT write below the end of the input only (45_transform.md R116, R118). -/
theorem State.bufByte_decryptBody_of_le (hj : s.len.toNat ≤ j) :
    (s.decryptBody cfg par).bufByte cfg j = s.bufByte cfg j := by
  simp (disch := omega) only [State.decryptBody, State.bufByte_complete, State.bufByte_releaseOff,
    State.bufByte_setLen, State.bufByte_dropBytes, State.bufByte_unmix, State.bufByte_extract, if_neg]

theorem State.bufByte_encrypt_of_le (hj : max s.len.toNat (s.encrypt cfg par).len.toNat ≤ j) :
    (s.encrypt cfg par).bufByte cfg j = s.bufByte cfg j := by
  rcases s.encrypt_cases cfg par with ⟨c, -, h⟩ | ⟨hfit, h⟩ <;> rw [h] at hj ⊢
  · rfl
  · rw [State.encryptBody_len hfit] at hj
    exact State.bufByte_encryptBody_of_le (by omega)

theorem State.bufByte_decrypt_of_le (hj : s.len.toNat ≤ j) : (s.decrypt cfg par).bufByte cfg j = s.bufByte cfg j := by
  rcases s.decrypt_cases cfg par with ⟨c, -, h⟩ | ⟨-, -, h⟩ <;> rw [h]
  · rfl
  · exact State.bufByte_decryptBody_of_le hj

end

/-- Settles O18: the fields by the frame, the bytes by what the stages reach. -/
theorem transformFrame : Obligations.TransformFrame := by
  unfold Obligations.TransformFrame
  intro par s t h
  have kept : t.transformFrame = s.transformFrame ∧
      ∀ j, max s.len.toNat t.len.toNat ≤ j → t.bufByte Config.chip j = s.bufByte Config.chip j := by
    rcases h with h | h <;> injection h with h <;> subst h
    · exact ⟨s.encrypt_transformFrame par, fun _ hj => State.bufByte_encrypt_of_le hj⟩
    · exact ⟨s.decrypt_transformFrame par, fun _ hj => State.bufByte_decrypt_of_le (by omega)⟩
  obtain ⟨fields, bytes⟩ := kept
  simp only [State.transformFrame, State.mk.injEq, true_and] at fields
  obtain ⟨keyValid, ovr, keyin, key, khash, mark, program, readings, turns, resets⟩ := fields
  exact ⟨key, keyin, khash, keyValid, ovr, mark, program, readings, turns, resets, bytes⟩

/-! ## The host's turn -/

section
variable {s : State} {ts : List Turn} {rest : List HostOp}

theorem step_of_turns_host (ht : s.turns = .host :: ts) : step s = .next ((s.setTurns ts).hostStep Config.chip) := by
  simp only [step, State.move, ht]

theorem State.hostStep_of_access {cfg : Config} {a : HostAccess} (h : s.program = .access a :: rest) :
    s.hostStep cfg = (s.setProgram rest).hostAccess cfg a := by
  simp only [State.hostStep, h]

@[simp] theorem State.addReading_lastValue (r : Reading) : (s.addReading r).lastValue = r.value := by
  simp [State.lastValue]

/-- POLL reads STATUS, which is permitted at any time, and stays while bit [0], BUSY, is 1 (30_encoding.md R73). -/
theorem State.hostStep_of_poll (h : s.program = .poll :: rest) :
    s.hostStep Config.chip =
      (s.addReading { kind := .read32, offset := 0x004, value := s.statusWord.toNat }).setProgram
        (if s.busy then s.program else rest) := by
  have hread : s.hostAccess Config.chip (.read32 0x004) =
      s.addReading { kind := .read32, offset := 0x004, value := s.statusWord.toNat } :=
    State.reads_read32 (.inr rfl) rfl (by decide)
  have bit0 : s.statusWord.toNat.testBit 0 = s.busy := s.statusWord_flags.1
  simp only [State.hostStep, h, hread, State.addReading_lastValue, bit0]
  split
  · rw [← h]
    rfl
  · rfl

end

/-- Settles O31. -/
theorem hostTurnRunsItsStatement : Obligations.HostTurnRunsItsStatement := by
  unfold Obligations.HostTurnRunsItsStatement
  intro s ts rest ht
  refine ⟨fun a hprog => ?_, fun hprog => ?_⟩
  · rw [step_of_turns_host ht, State.hostStep_of_access (s := s.setTurns ts) hprog]
    rfl
  · rw [step_of_turns_host ht, State.hostStep_of_poll (s := s.setTurns ts) hprog]
    rfl

end Sys2Proof.Machine

/-! Proofs of the family 30_encoding.md: the decoder and the encoder are inverse on the words that stand for a command,
the opcode map, the decoder in numbers, the mode PAR, and that every word has an answer. -/

namespace Sys2Proof

/-! ## The fields of a word -/

/-- Bit k of a word is a bit of OP, PAR or a bit of RSV, by its place (30_encoding.md R63). -/
theorem wordOfFields_getLsbD (f : CommandFields) (k : Nat) :
    (wordOfFields f).getLsbD k =
      if k < 4 then f.op.getLsbD k else if k = 4 then f.par else f.rsv.getLsbD (k - 5) := by
  simp only [wordOfFields, BitVec.getLsbD_append, BitVec.getLsbD_ofBool]
  rcases Nat.lt_trichotomy k 4 with hop | rfl | hrsv
  · simp only [if_pos hop]
  · simp
  · simp (disch := omega) only [if_neg, Nat.sub_sub]

@[simp] theorem fieldsOf_wordOfFields (f : CommandFields) : fieldsOf (wordOfFields f) = f := by
  obtain ⟨rsv, par, op⟩ := f
  simp only [fieldsOf, wordOfFields_getLsbD, CommandFields.mk.injEq]
  refine ⟨BitVec.eq_of_getLsbD_eq fun k hk => ?_, rfl, BitVec.eq_of_getLsbD_eq fun k hk => ?_⟩
  · have above_op : ¬ 5 + k < 4 := by omega
    have above_par : 5 + k ≠ 4 := by omega
    rw [BitVec.getLsbD_extractLsb', wordOfFields_getLsbD]
    simp [hk, above_op, above_par]
  · rw [BitVec.getLsbD_extractLsb', wordOfFields_getLsbD]
    simp [hk]

@[simp] theorem wordOfFields_fieldsOf (w : Word) : wordOfFields (fieldsOf w) = w := by
  refine BitVec.eq_of_getLsbD_eq fun k hk => ?_
  rw [wordOfFields_getLsbD]
  split_ifs with hop hpar
  · simp [fieldsOf, hop]
  · exact hpar ▸ rfl
  · have place : 5 + (k - 5) = k := by omega
    simp [fieldsOf, place]
    omega

/-- The fields and the word stand for each other (30_encoding.md R63). -/
theorem fieldsOf_eq_iff (w : Word) (f : CommandFields) : fieldsOf w = f ↔ wordOfFields f = w := by
  constructor
  · rintro rfl
    exact wordOfFields_fieldsOf w
  · rintro rfl
    exact fieldsOf_wordOfFields f

/-! ## Decoding and encoding -/

@[simp] theorem decodeFields_fields (i : Instr) : decodeFields i.fields = .command i := by
  cases i with
  | loadkey => rfl
  | encrypt par => rfl
  | decrypt par => rfl

/-- The decoder answers a command for that command's fields only (R64 to R66). -/
theorem decodeFields_eq_command_iff (f : CommandFields) (i : Instr) : decodeFields f = .command i ↔ f = i.fields := by
  refine ⟨fun h => ?_, fun h => h ▸ decodeFields_fields i⟩
  obtain ⟨rsv, par, op⟩ := f
  simp only [decodeFields] at h
  split_ifs at h with hrsv hload hpar hencrypt hdecrypt <;> cases h
  all_goals simp_all [Instr.fields]

theorem Instr.wellFormed_eq_true (i : Instr) : i.wellFormed = true := by
  cases i with
  | loadkey => exact Laws.LegalEncoding.loadkey.1
  | encrypt par => exact (Laws.LegalEncoding.encrypt par).1
  | decrypt par => exact (Laws.LegalEncoding.decrypt par).1

theorem decode_eq_command_iff (w : Word) (i : Instr) : decode w = .command i ↔ encode i = w :=
  (decodeFields_eq_command_iff _ i).trans (fieldsOf_eq_iff w i.fields)

/-- Settles O1: the word's fields are the command's, and no command is ill formed. -/
theorem decodeIffEncode : Obligations.DecodeIffEncode := by
  unfold Obligations.DecodeIffEncode
  intro w i
  simp [decode_eq_command_iff, i.wellFormed_eq_true]

/-! ## The opcode map -/

/-- The mask 0xFFFFFFEF leaves out PAR, bit [4], alone. -/
theorem eq_iff_mask_and_par (v w : Word) :
    v = w ↔ w &&& 0xFFFFFFEF#32 = v &&& 0xFFFFFFEF#32 ∧ w.getLsbD 4 = v.getLsbD 4 := by
  have masked : ∀ k < 32, k ≠ 4 → (0xFFFFFFEF#32).getLsbD k = true := by decide
  refine ⟨fun h => h ▸ ⟨rfl, rfl⟩, fun ⟨hmask, hpar⟩ => BitVec.eq_of_getLsbD_eq fun k hk => ?_⟩
  by_cases h4 : k = 4
  · exact h4 ▸ hpar.symm
  · have bit := congrArg (·.getLsbD k) hmask
    simpa [masked k hk h4] using bit.symm

theorem encode_par (i : Instr) : (encode i).getLsbD 4 = i.fields.par :=
  congrArg CommandFields.par (fieldsOf_wordOfFields i.fields)

theorem decode_eq_encrypt_iff (w : Word) (par : Bool) :
    decode w = .command (.encrypt par) ↔ w &&& 0xFFFFFFEF#32 = 0x00000002#32 ∧ w.getLsbD 4 = par := by
  obtain ⟨-, -, row⟩ := Laws.LegalEncoding.encrypt par
  rw [decode_eq_command_iff, eq_iff_mask_and_par, encode_par]
  exact row ▸ Iff.rfl

theorem decode_eq_decrypt_iff (w : Word) (par : Bool) :
    decode w = .command (.decrypt par) ↔ w &&& 0xFFFFFFEF#32 = 0x00000003#32 ∧ w.getLsbD 4 = par := by
  obtain ⟨-, -, row⟩ := Laws.LegalEncoding.decrypt par
  rw [decode_eq_command_iff, eq_iff_mask_and_par, encode_par]
  exact row ▸ Iff.rfl

theorem decode_eq_loadkey_iff (w : Word) :
    decode w = .command .loadkey ↔ w &&& 0xFFFFFFFF#32 = 0x00000001#32 := by
  have whole : w &&& 0xFFFFFFFF#32 = w := BitVec.and_allOnes
  rw [decode_eq_command_iff, whole]
  exact eq_comm

/-- A word stands for some command exactly when it is one of the five legal words (R68). -/
theorem exists_decode_eq_command_iff (w : Word) : (∃ i, decode w = .command i) ↔ w ∈ legalWords := by
  simp only [decode_eq_command_iff]
  constructor
  · rintro ⟨i, rfl⟩
    cases i with
    | loadkey => exact Laws.LegalEncoding.loadkey.2.1
    | encrypt par => exact (Laws.LegalEncoding.encrypt par).2.1
    | decrypt par => exact (Laws.LegalEncoding.decrypt par).2.1
  · intro h
    have words : legalWords =
      [Instr.loadkey, .encrypt false, .encrypt true, .decrypt false, .decrypt true].map encode := by decide
    obtain ⟨i, -, hi⟩ := List.mem_map.1 (words ▸ h)
    exact ⟨i, hi⟩

/-- Settles O2: each row of the map is the command's encoding, masked. -/
theorem opcodeMapIsExact : Obligations.OpcodeMapIsExact := by
  unfold Obligations.OpcodeMapIsExact
  intro w
  refine ⟨decode_eq_loadkey_iff w, decode_eq_encrypt_iff w, decode_eq_decrypt_iff w, ?_⟩
  simpa [legalWords] using exists_decode_eq_command_iff w

/-- Settles O4. -/
theorem writtenWordsDecode : Obligations.WrittenWordsDecode := by
  unfold Obligations.WrittenWordsDecode
  decide

/-! ## The decoder in numbers -/

theorem fieldsOf_rsv_toNat (w : Word) : (fieldsOf w).rsv.toNat = w.toNat / 32 := by
  have := w.isLt
  simp only [fieldsOf, BitVec.extractLsb'_toNat, Nat.shiftRight_eq_div_pow]
  omega

theorem fieldsOf_op_toNat (w : Word) : (fieldsOf w).op.toNat = w.toNat % 16 := by
  simp [fieldsOf]

theorem fieldsOf_par (w : Word) : (fieldsOf w).par = decide (w.toNat / 16 % 2 = 1) := by
  simp [fieldsOf, BitVec.getLsbD, Nat.testBit_eq_decide_div_mod_eq]

/-- Settles O3: RSV, PAR and OP are the word's quotients and remainders. -/
theorem decoderFollowsItsPseudocode : Obligations.DecoderFollowsItsPseudocode := by
  unfold Obligations.DecoderFollowsItsPseudocode
  intro w
  simp only [decode, decodeFields, ne_eq, ← BitVec.toNat_inj, fieldsOf_rsv_toNat, fieldsOf_op_toNat, fieldsOf_par]
  simp

end Sys2Proof

namespace Sys2Proof.Machine

/-! ## The mode -/

section
variable (cfg : Config) {s : State}

/-- The mode chooses the order of the pass and nothing else (30_encoding.md R65, 44_byte_mixer.md R114). -/
theorem State.encrypt_par (h : s.mem.wf) (par : Bool) : s.encrypt cfg par = s.encrypt cfg false := by
  have normalized : ((s.normalize cfg s.len.toNat).offsetGen cfg).mem.wf := State.normalize_wf cfg h _
  simp only [State.encrypt, State.encryptBody, State.mix_par cfg normalized par]

theorem State.decrypt_par (h : s.mem.wf) (par : Bool) : s.decrypt cfg par = s.decrypt cfg false := by
  have extracted : (s.extract cfg (s.len.toNat - 8)).mem.wf := h
  simp only [State.decrypt, State.decryptBody, State.unmix_par cfg extracted par]

end

/-- Settles O22. -/
theorem parNeverChangesResult : Obligations.ParNeverChangesResult := by
  unfold Obligations.ParNeverChangesResult
  intro s h
  exact ⟨congrArg Host.Outcome.next (State.encrypt_par Config.chip h true),
    congrArg Host.Outcome.next (State.decrypt_par Config.chip h true)⟩

/-! ## Every word has an answer -/

theorem State.engineStep_of_rejected {s : State} {r : Reject} (hd : decode s.pend = .rejected r) :
    s.engineStep = .next (s.failed 1) := by
  simp only [State.engineStep, State.fetch, hd]
  rfl

/-- Settles O28: the engine moves with an empty schedule as well as in its own turn. -/
theorem illegalWordCompletes : Obligations.IllegalWordCompletes := by
  unfold Obligations.IllegalWordCompletes
  intro s r hb hd
  refine ⟨fun ht => ?_, fun ts ht => ?_⟩
  · rw [step_of_busy_of_turns_nil hb ht, State.engineStep_of_rejected hd]
  · have turn : (s.setTurns ts).engineTurn = (s.setTurns ts).engineStep := State.engineTurn_of_busy hb
    exact (step_of_turns_engine ht).trans (turn.trans (State.engineStep_of_rejected (s := s.setTurns ts) hd))

/-- The engine answers every word: a command completes and any other word is rejected (30_encoding.md R69, R70). -/
theorem State.engineStep_next (s : State) : ∃ t, s.engineStep = .next t := by
  cases hd : decode s.pend with
  | command i =>
    obtain ⟨t, ht, -⟩ := exec_completes s i
    exact ⟨t, (State.engineStep_of_command hd).trans ht⟩
  | rejected r => exact ⟨_, State.engineStep_of_rejected hd⟩

theorem State.engineTurn_next (s : State) : ∃ t, s.engineTurn = .next t := by
  cases hb : s.busy with
  | false => exact ⟨s, State.engineTurn_of_idle hb⟩
  | true => exact State.engineTurn_of_busy hb ▸ s.engineStep_next

theorem step_of_idle_of_turns_nil {s : State} (hb : s.busy = false) (ht : s.turns = []) :
    step s = .next (s.hostStep Config.chip) := by
  simp [step, State.move, ht, hb]

theorem step_of_turns_reset {s : State} {ts : List Turn} (ht : s.turns = .reset :: ts) :
    step s = .next ((s.setTurns ts).applyReset Config.chip) := by
  simp only [step, State.move, ht]

/-- Settles O30, by the agent that moves. -/
theorem everyStepAnswersNext : Obligations.EveryStepAnswersNext := by
  unfold Obligations.EveryStepAnswersNext
  intro s
  match ht : s.turns with
  | [] =>
    cases hb : s.busy with
    | false => exact ⟨_, step_of_idle_of_turns_nil hb ht⟩
    | true => exact step_of_busy_of_turns_nil hb ht ▸ s.engineStep_next
  | .engine :: ts => exact step_of_turns_engine ht ▸ (s.setTurns ts).engineTurn_next
  | .host :: ts => exact ⟨_, step_of_turns_host ht⟩
  | .reset :: ts => exact ⟨_, step_of_turns_reset ht⟩

end Sys2Proof.Machine

/-! Proofs of the family 41_key.md: LOADKEY and the SETKEY sequence. -/

namespace Sys2Proof.Machine

/-! ## LOADKEY -/

theorem exec_loadkey (s : State) : exec .loadkey s = .next (s.loadKey Config.chip) := rfl

/-- Byte k of a file is lane k mod 4 of its register k div 4 (10_state.md R31, 41_key.md R75). -/
theorem byteLane_fileWord_div_mod (v : Vector Byte 16) (k : Nat) :
    byteLane (fileWord v (k / 4)) (k % 4) = fileByte v k := by
  rw [byteLane_fileWord v _ (Nat.mod_lt k (by decide)), Nat.div_add_mod]

/-- Settles O12: the next state is `loadKey` of the chip's configuration, which is that record update. -/
theorem loadkeyEffect : Obligations.LoadkeyEffect := by
  unfold Obligations.LoadkeyEffect
  refine ⟨fun w => (decode_eq_command_iff w .loadkey).trans eq_comm, fun s => ⟨_, exec_loadkey s, rfl, fun k _ => ?_⟩⟩
  rw [State.loadKey_key, byteLane_fileWord_div_mod]

/-! ## SETKEY -/

theorem file_ext {v u : Vector Byte 16} (h : ∀ j < 16, fileByte v j = fileByte u j) : v = u :=
  Vector.ext fun j hj => by simpa only [fileByte, Nat.mod_eq_of_lt hj] using h j hj

/-- Writing all four registers of a file copies it, whatever the target held (41_key.md R77). -/
theorem setFileWord_fileWord_all (v k : Vector Byte 16) :
    setFileWord (setFileWord (setFileWord (setFileWord v 0 (fileWord k 0)) 1 (fileWord k 1)) 2 (fileWord k 2))
      3 (fileWord k 3) = k := by
  refine file_ext fun j hj => ?_
  simp (disch := omega) only [fileByte_setFileWord, ← byteLane_fileWord_div_mod k j]
  have register : j / 4 = 0 ∨ j / 4 = 1 ∨ j / 4 = 2 ∨ j / 4 = 3 := by omega
  rcases register with h | h | h | h <;> simp [h]

section
variable {cfg : Config} {s : State}

/-- A KEYIN write while idle (10_state.md R31). -/
theorem State.hostAccess_keyin (hb : s.busy = false) {w : Nat} (hw : w < 4) (v : Word) :
    s.hostAccess cfg (.write32 (0x010 + 4 * w) v) = s.setKeyin (setFileWord s.keyin w v) := by
  rw [State.hostAccess_write32 (.inl hb) (by omega) (by unfold bufBase; omega), State.write32, targetOf_keyin cfg hw]

/-- KEYIN writes while idle, in a row, change the staging bytes only (10_state.md R31). -/
theorem State.foldl_hostAccess_keyin (hb : s.busy = false) (ps : List (Word × Nat)) (hps : ∀ p ∈ ps, p.2 < 4) :
    ps.foldl (fun t p => t.hostAccess cfg (.write32 (0x010 + 4 * p.2) p.1)) s =
      s.setKeyin (ps.foldl (fun v p => setFileWord v p.2 p.1) s.keyin) := by
  induction ps generalizing s with
  | nil => rfl
  | cons p ps ih =>
    obtain ⟨hp, hrest⟩ := List.forall_mem_cons.1 hps
    rw [List.foldl_cons, State.hostAccess_keyin hb hp, ih (by simpa using hb) hrest]
    rfl

end

/-- Settles O56: LOADKEY copies the staging bytes, which the four writes have made `k` and the CMD write keeps. -/
theorem setkeyInstallsItsBytes : Obligations.SetkeyInstallsItsBytes := by
  unfold Obligations.SetkeyInstallsItsBytes
  intro s k hb staged
  have hstaged : staged = s.setKeyin k := calc
    staged = s.setKeyin (setFileWord (setFileWord (setFileWord (setFileWord s.keyin
          0 (fileWord k 0)) 1 (fileWord k 1)) 2 (fileWord k 2)) 3 (fileWord k 3)) :=
        State.foldl_hostAccess_keyin hb _ (by simp)
    _ = s.setKeyin k := congrArg s.setKeyin (setFileWord_fileWord_all s.keyin k)
  obtain ⟨accepted, -⟩ := cmdWriteAccepts (s.setKeyin k) 0x00000001#32 hb
  rw [hstaged, accepted]
  exact ⟨rfl, _, exec_loadkey _, rfl, rfl⟩

end Sys2Proof.Machine

/-! Proofs of the family 42_length_normalizer.md: RESTORE undoes NORMALIZE, and the result of an ENCRYPT and of a
DECRYPT that pass their checks. -/

namespace Sys2Proof.Machine

/-! ## The marker -/

theorem markerByte_toNat (n : Nat) : (markerByte n).toNat = if n ≤ 16 then n else 17 := by
  unfold markerByte keyBytes sentinel
  split
  · rw [BitVec.toNat_ofNat, Nat.mod_eq_of_lt (by omega)]
  · rfl

/-- A marker is consistent when it is above 16 or at most the number of bytes before it (42_length_normalizer.md R89). -/
theorem markerInconsistent_eq_false_iff (m : Nat) (marker : Byte) :
    markerInconsistent m marker = false ↔ (marker.toNat ≤ 16 → marker.toNat ≤ m - 1) := by
  simp [markerInconsistent]

theorem markerInconsistent_markerByte (n : Nat) : markerInconsistent (max 16 n + 1) (markerByte n) = false := by
  rw [markerInconsistent_eq_false_iff]
  omega

theorem restoredLength_markerByte (n : Nat) : restoredLength (max 16 n + 1) (markerByte n) = n := by
  unfold restoredLength keyBytes
  rw [markerByte_toNat]
  split_ifs <;> omega

section
variable (cfg : Config) (s : State)

theorem State.bufByte_normalize_marker (n : Nat) : (s.normalize cfg n).bufByte cfg (max 16 n) = markerByte n := by
  rw [State.bufByte_normalize, if_pos rfl]

theorem State.bufByte_normalize_of_lt {n j : Nat} (hj : j < n) :
    (s.normalize cfg n).bufByte cfg j = s.bufByte cfg j := by
  rw [State.bufByte_normalize, if_neg (by omega), if_neg (by omega)]

end

/-- Settles O9: the marker that NORMALIZE leaves names the length, and the stage writes from n up only. -/
theorem restoreUndoesNormalize : Obligations.RestoreUndoesNormalize := by
  unfold Obligations.RestoreUndoesNormalize
  intro cfg s n
  rw [State.bufByte_normalize_marker]
  exact ⟨restoredLength_markerByte n, markerInconsistent_markerByte n, fun _ hj => s.bufByte_normalize_of_lt cfg hj⟩

/-! ## The result of an ENCRYPT -/

section
variable {cfg : Config} {s : State} (par : Bool)

/-- An ENCRYPT with a key and a result that fits the buffer raises no error (45_transform.md R115). -/
theorem State.encrypt_of_fits (hkey : s.keyValid = true) (hfit : max 16 s.len.toNat + 9 ≤ cfg.bufCap) :
    s.encrypt cfg par = s.encryptBody cfg par := by
  have passes : s.encryptError cfg = none := by
    rw [State.encryptError, if_neg (by omega), if_neg (by simp [hkey]), if_neg (by unfold keyBytes; omega)]
  rw [State.encrypt, passes]

variable (s)

/-- The bytes up to the marker's position are the normalized ones, mixed (44_byte_mixer.md R109). -/
theorem State.bufByte_encryptBody_of_le_marker {j : Nat} (hj : j ≤ max 16 s.len.toNat) :
    (s.encryptBody cfg par).bufByte cfg j =
      encByte ((s.normalize cfg s.len.toNat).bufByte cfg j)
        (cryptoOffset s.key ((s.normalize cfg s.len.toNat).offsetGen cfg).off j) := by
  have region : j < max 16 s.len.toNat + 1 := by omega
  have not_embedded : ¬ (max 16 s.len.toNat + 1 ≤ j ∧ j < max 16 s.len.toNat + 1 + 8) := by omega
  simp only [State.encryptBody, State.bufByte_complete, State.bufByte_releaseOff, State.bufByte_setLen,
    State.bufByte_embed, State.bufByte_mix, State.bufByte_offsetGen, markerPos_eq, if_pos region, if_neg not_embedded,
    State.offsetGen_key, State.normalize_key]

/-- The eight bytes after the marker's position are the drawn offsets, embedded (43_offset_embedder.md R95). -/
theorem State.bufByte_encryptBody_embedded {k : Nat} (hk : k < 8) :
    (s.encryptBody cfg par).bufByte cfg (max 16 s.len.toNat + 1 + k) =
      offByte ((s.normalize cfg s.len.toNat).offsetGen cfg).off k + hashByte s.khash k := by
  have embedded : max 16 s.len.toNat + 1 ≤ max 16 s.len.toNat + 1 + k ∧
      max 16 s.len.toNat + 1 + k < max 16 s.len.toNat + 1 + 8 := by omega
  simp only [State.encryptBody, State.bufByte_complete, State.bufByte_releaseOff, State.bufByte_setLen,
    State.bufByte_embed, markerPos_eq, if_pos embedded, Nat.add_sub_cancel_left, State.mix_off, State.mix_khash,
    State.offsetGen_khash, State.normalize_khash]

/-- NORMALIZE leaves the original bytes, the padding draws and the marker (42_length_normalizer.md R86). -/
theorem State.bufByte_normalize_eq_normalizedByte {j : Nat} (hj : j ≤ max 16 s.len.toNat) :
    (s.normalize Config.chip s.len.toNat).bufByte Config.chip j = s.normalizedByte j := by
  rw [State.bufByte_normalize, State.normalizedByte]
  by_cases marker : j = max 16 s.len.toNat
  · rw [if_pos marker, if_neg (by omega), if_neg (by omega)]
    rfl
  · rw [if_neg marker]
    by_cases original : j < s.len.toNat
    · rw [if_neg (by omega), if_pos original]
    · rw [if_pos (by omega), if_neg original, if_pos (by omega)]

end

/-- Settles O13: what the body of an ENCRYPT leaves, one range of bytes at a time. -/
theorem encryptResult : Obligations.EncryptResult := by
  unfold Obligations.EncryptResult
  intro par s hkey hfit
  have body : exec (.encrypt par) s = .next (s.encryptBody Config.chip par) :=
    congrArg Host.Outcome.next (State.encrypt_of_fits par hkey hfit)
  have mixed : ∀ j, j ≤ max 16 s.len.toNat → (s.encryptBody Config.chip par).bufByte Config.chip j =
      encByte (s.normalizedByte j) (cryptoOffset s.key s.drawnOffsets j) := fun j hj => by
    rw [s.bufByte_encryptBody_of_le_marker par hj, s.bufByte_normalize_eq_normalizedByte hj]
    rfl
  exact ⟨_, body, State.encryptBody_len hfit, mixed, fun _ hk => s.bufByte_encryptBody_embedded par hk,
    fun _ hj => State.bufByte_encryptBody_of_le hj, rfl, rfl, rfl, rfl, rfl, rfl⟩

/-! ## The result of a DECRYPT -/

/-- The length a DECRYPT restores from the marker it recovers (42_length_normalizer.md R88, 45_transform.md R117). -/
def State.decryptedLength (cfg : Config) (s : State) : Nat :=
  restoredLength (s.len.toNat - 8) (s.recoveredMarker cfg)

section
variable {cfg : Config} {s : State} (par : Bool)

/-- A DECRYPT with a key, a length in range and a consistent marker raises no error (45_transform.md R116). -/
theorem State.decrypt_of_consistent (hkey : s.keyValid = true) (hlong : 9 ≤ s.len.toNat)
    (hfit : s.len.toNat ≤ cfg.bufCap)
    (hmarker : markerInconsistent (s.len.toNat - 8) (s.recoveredMarker cfg) = false) :
    s.decrypt cfg par = s.decryptBody cfg par := by
  have passes : s.decryptError cfg = none := by
    rw [State.decryptError, if_neg (by omega), if_neg (by simp [hkey]), if_neg (by omega), if_neg (by simp [hmarker])]
  rw [State.decrypt, passes]

/-- The marker UNMIX leaves is the one recovered before any byte was written (45_transform.md R117), so it decides the
length. -/
theorem State.decryptBody_eq (hlong : 9 ≤ s.len.toNat) :
    s.decryptBody cfg par =
      (((((s.extract cfg (s.len.toNat - 8)).unmix cfg par (s.len.toNat - 8)).dropBytes cfg (s.decryptedLength cfg)
        s.len.toNat).setLen (BitVec.ofNat 32 (s.decryptedLength cfg))).releaseOff cfg).complete := by
  have marker : ((s.extract cfg (s.len.toNat - 8)).unmix cfg par (s.len.toNat - 8)).bufByte cfg
      (s.len.toNat - 8 - 1) = s.recoveredMarker cfg := by
    rw [State.bufByte_unmix, if_pos (by omega)]
    rfl
  rw [State.decryptBody, marker]
  rfl

/-- A consistent marker restores no more bytes than stand before it (42_length_normalizer.md R89). -/
theorem State.decryptedLength_le (hmarker : markerInconsistent (s.len.toNat - 8) (s.recoveredMarker cfg) = false) :
    s.decryptedLength cfg ≤ s.len.toNat - 9 := by
  rw [markerInconsistent_eq_false_iff] at hmarker
  unfold State.decryptedLength restoredLength keyBytes
  split_ifs <;> omega

/-- A DECRYPT consumes no draw (45_transform.md R121). -/
@[simp] theorem State.decryptBody_draws (s : State) : (s.decryptBody cfg par).draws = s.draws := by
  simp only [State.decryptBody, State.complete_draws, State.releaseOff_draws, State.setLen_draws,
    State.dropBytes_draws, State.unmix_draws, State.extract_draws]

variable (hlong : 9 ≤ s.len.toNat)
  (hmarker : markerInconsistent (s.len.toNat - 8) (s.recoveredMarker cfg) = false)
include hlong hmarker

theorem State.decryptBody_len : (s.decryptBody cfg par).len.toNat = s.decryptedLength cfg := by
  have hle := State.decryptedLength_le hmarker
  rw [State.decryptBody_eq par hlong]
  simp only [State.complete_len, State.releaseOff_len, State.setLen_len, BitVec.toNat_ofNat]
  exact Nat.mod_eq_of_lt (by omega)

/-- The restored bytes are the unmixed ones (44_byte_mixer.md R110). -/
theorem State.bufByte_decryptBody_of_lt {j : Nat} (hj : j < s.decryptedLength cfg) :
    (s.decryptBody cfg par).bufByte cfg j =
      decByte (s.bufByte cfg j) (cryptoOffset s.key (s.extract cfg (s.len.toNat - 8)).off j) := by
  have hle := State.decryptedLength_le hmarker
  have kept : ¬ (s.decryptedLength cfg ≤ j ∧ j < s.len.toNat) := by omega
  have region : j < s.len.toNat - 8 := by omega
  rw [State.decryptBody_eq par hlong]
  simp only [State.bufByte_complete, State.bufByte_releaseOff, State.bufByte_setLen, State.bufByte_dropBytes,
    State.bufByte_unmix, State.bufByte_extract, State.extract_key, if_neg kept, if_pos region]

end

/-- Settles O14: what the body of a DECRYPT leaves; the chip's recovered marker is the unmixed byte before the last
eight. -/
theorem decryptResult : Obligations.DecryptResult := by
  unfold Obligations.DecryptResult
  intro par s hkey hlong hfit hmarker
  have consistent : markerInconsistent (s.len.toNat - 8) (s.recoveredMarker Config.chip) = false :=
    (markerInconsistent_eq_false_iff ..).2 hmarker
  have body : exec (.decrypt par) s = .next (s.decryptBody Config.chip par) :=
    congrArg Host.Outcome.next (State.decrypt_of_consistent par hkey hlong hfit consistent)
  have length := State.decryptBody_len par hlong consistent
  exact ⟨_, body, length, fun _ hj => State.bufByte_decryptBody_of_lt par hlong consistent (hj.trans_eq length),
    fun _ hj => State.bufByte_decryptBody_of_le hj, s.decryptBody_draws par, rfl, rfl, rfl, rfl, rfl⟩

end Sys2Proof.Machine

/-! Proofs of the family 43_offset_embedder.md: the bytes of the key hash, and EXTRACT undoes EMBED. -/

namespace Sys2Proof.Machine

/-- The number of the k-th key-hash byte (R94). -/
theorem hashByte_toNat (h : BitVec 64) (k : Nat) : (hashByte h k).toNat = h.toNat / 256 ^ k % 256 := by
  rw [hashByte_eq, BitVec.toNat_ofNat, Nat.mod_mod]

/-- The number of an aligned byte slice: shifting right by 8k bits divides by 256^k. -/
theorem extractLsb'_byte_toNat {w : Nat} (h : BitVec w) (k : Nat) :
    (h.extractLsb' (8 * k) 8).toNat = h.toNat / 256 ^ k % 256 := by
  rw [BitVec.extractLsb'_toNat, Nat.shiftRight_eq_div_pow, Nat.pow_mul]

/-- Settles O7: both sides have the same number. -/
theorem hashBytesAreSlices : Obligations.HashBytesAreSlices := by
  unfold Obligations.HashBytesAreSlices
  intro h k _
  have same_number : (hashByte h k).toNat = (h.extractLsb' (8 * k) 8).toNat := by
    rw [hashByte_toNat, extractLsb'_byte_toNat]
  exact ⟨BitVec.eq_of_toNat_eq same_number, hashByte_toNat h k⟩

/-- Two offset files with the same eight bytes are equal. -/
theorem offByte_ext {u v : Vector Byte 8} (same : ∀ k < 8, offByte u k = offByte v k) : u = v := by
  refine Vector.ext fun k hk => ?_
  simpa only [offByte, Nat.mod_eq_of_lt hk] using same k hk

/-- EMBED's byte at position m + k (R95). -/
theorem State.bufByte_embed_add (cfg : Config) (s : State) (m : Nat) {k : Nat} (hk : k < 8) :
    (s.embed m).bufByte cfg (m + k) = offByte s.off k + hashByte s.khash k := by
  have embedded : m ≤ m + k ∧ m + k < m + 8 := by omega
  rw [State.bufByte_embed, if_pos embedded, Nat.add_sub_cancel_left]

/-- Settles O8: EXTRACT subtracts from each byte the key-hash byte that EMBED added to it, whatever its value. -/
theorem extractUndoesEmbed : Obligations.ExtractUndoesEmbed := by
  unfold Obligations.ExtractUndoesEmbed
  intro cfg s m
  refine offByte_ext fun k hk => ?_
  calc offByte ((s.embed m).extract cfg m).off k
      = (s.embed m).bufByte cfg (m + k) - hashByte s.khash k := State.offByte_extract cfg (s.embed m) m hk
    _ = offByte s.off k + hashByte s.khash k - hashByte s.khash k := by rw [State.bufByte_embed_add cfg s m hk]
    _ = offByte s.off k := BitVec.add_sub_cancel ..

end Sys2Proof.Machine

/-! Proofs of the family 44_byte_mixer.md: the byte transform's inversion, the values of a position, and what a pass
leaves whatever its lanes. -/

namespace Sys2Proof.Machine

/-! ## The byte transform -/

/-- The rotated byte has the popcount of the byte before it, so DEC_BYTE rotates back by ENC_BYTE's amount (R108). -/
theorem rotationAmount_encByte (b co : Byte) : rotationAmount (encByte b co) co = rotationAmount (b + co) co := by
  rw [rotationAmount, encByte, popcount8_rotl8 _ (rotationAmount_lt _ _), rotationAmount]

/-- DEC_BYTE inverts ENC_BYTE (R107). -/
theorem decByte_encByte (b co : Byte) : decByte (encByte b co) co = b := by
  rw [decByte, rotationAmount_encByte, encByte, rotr8_rotl8 _ (rotationAmount_lt _ _), BitVec.add_sub_cancel]

/-- Settles O5: a map of the 256 bytes to themselves that has a left inverse is a bijection. -/
theorem decByteInvertsEncByte : Obligations.DecByteInvertsEncByte := by
  unfold Obligations.DecByteInvertsEncByte
  intro co
  have inverts : Function.LeftInverse (decByte · co) (encByte · co) := fun b => decByte_encByte b co
  exact ⟨inverts, Finite.injective_iff_bijective.1 inverts.injective⟩

/-! ## The values of a position -/

theorem fileByte_mod (v : Vector Byte 16) (k : Nat) : fileByte v (k % 16) = fileByte v k := by
  simp only [fileByte, Nat.mod_mod]

/-- No wrap is lost: the sum of the three numbers is taken mod 256 once (R103). -/
theorem cryptoOffset_toNat (key : Vector Byte 16) (off : Vector Byte 8) (i : Nat) :
    (cryptoOffset key off i).toNat =
      ((offByte off (offsetIndex key i)).toNat + i % 256 + (keyByteAt key i).toNat) % 256 := by
  simp only [cryptoOffset, BitVec.toNat_add, BitVec.toNat_ofNat]
  omega

/-- The index needs only the low three bits of each summand (R102). -/
theorem offsetIndex_eq_low_bits (key : Vector Byte 16) (i : Nat) :
    offsetIndex key i = ((fileByte key 15).toNat % 8 + i % 8 + i / 9 % 8) % 8 := by
  simp only [offsetIndex, offsetCount, offsetDivisor]
  omega

/-- Settles O6: the model's operands of a position, read as numbers. -/
theorem cryptoOffsetFormula : Obligations.CryptoOffsetFormula := by
  unfold Obligations.CryptoOffsetFormula
  intro key off i
  exact ⟨(fileByte_mod key i).symm, rfl, offsetIndex_eq_low_bits key i, cryptoOffset_toNat key off i⟩

/-! ## The passes -/

section
variable (cfg : Config) (s : State) (m j : Nat)

/-- What UNMIX leaves in the region (R110). -/
theorem State.bufByte_unmix_of_lt (par : Bool) (hj : j < m) :
    (s.unmix cfg par m).bufByte cfg j = decByte (s.bufByte cfg j) (cryptoOffset s.key s.off j) := by
  rw [State.bufByte_unmix, if_pos hj]

/-- UNMIX restores what MIX with the same KEY and OFF mixed, position by position (R110). -/
theorem State.bufByte_unmix_mix (par par' : Bool) :
    ((s.mix cfg par m).unmix cfg par' m).bufByte cfg j = s.bufByte cfg j := by
  rw [State.bufByte_unmix, State.bufByte_mix, State.mix_key, State.mix_off]
  by_cases region : j < m
  · rw [if_pos region, if_pos region, decByte_encByte]
  · rw [if_neg region, if_neg region]

/-- The mode of a MIX decides no byte (R114). -/
theorem State.bufByte_mix_par (par par' : Bool) :
    (s.mix cfg par m).bufByte cfg j = (s.mix cfg par' m).bufByte cfg j := by
  rw [State.bufByte_mix, State.bufByte_mix]

/-- The mode of an UNMIX decides no byte (R114). -/
theorem State.bufByte_unmix_par (par par' : Bool) :
    (s.unmix cfg par m).bufByte cfg j = (s.unmix cfg par' m).bufByte cfg j := by
  rw [State.bufByte_unmix, State.bufByte_unmix]

end

/-- Settles O10: UNMIX and MIX write each position of the region once, and DEC_BYTE inverts ENC_BYTE there. -/
theorem unmixUndoesMix : Obligations.UnmixUndoesMix := by
  unfold Obligations.UnmixUndoesMix
  intro cfg s par par' m j
  exact ⟨s.bufByte_unmix_of_lt cfg m j par, s.bufByte_unmix_mix cfg m j par par'⟩

/-- Settles O11: the order of a pass visits each position of the region once, whatever the lanes. -/
theorem passesIgnoreLanes : Obligations.PassesIgnoreLanes := by
  unfold Obligations.PassesIgnoreLanes
  intro cfg s m
  exact ⟨fun j => ⟨s.bufByte_mix_par cfg m j true false, s.bufByte_unmix_par cfg m j true false⟩,
    fun canonical => ⟨State.mix_par cfg canonical true m, State.unmix_par cfg canonical true m⟩⟩

end Sys2Proof.Machine


/-! Proofs of the family 45_transform.md: the errors of ENCRYPT and DECRYPT, the length and the draws of an ENCRYPT,
the round trip, and what the results depend on. -/

namespace Sys2Proof.Machine

theorem exec_encrypt (par : Bool) (s : State) : exec (.encrypt par) s = .next (s.encrypt Config.chip par) := rfl

theorem exec_decrypt (par : Bool) (s : State) : exec (.decrypt par) s = .next (s.decrypt Config.chip par) := rfl

/-! ## The errors -/

section
variable {s : State} {par : Bool} {c : ErrCode}

/-- Raising an error changes STATUS, PEND and the OFF latch (60_exceptions.md R137). -/
theorem State.raiseError_eq_failed (hc : c ≠ .none) : s.raiseError Config.chip c = s.failed c.bits := by
  simp [State.raiseError, State.finish, State.releaseOff, State.failed, hc]

theorem exec_encrypt_of_error (he : s.encryptError Config.chip = some c) (hc : c ≠ .none) :
    exec (.encrypt par) s = .next (s.failed c.bits) := by
  rw [exec_encrypt, State.encrypt, he, ← State.raiseError_eq_failed hc]

theorem exec_decrypt_of_error (he : s.decryptError Config.chip = some c) (hc : c ≠ .none) :
    exec (.decrypt par) s = .next (s.failed c.bits) := by
  rw [exec_decrypt, State.decrypt, he, ← State.raiseError_eq_failed hc]

end

/-- Settles O15: the clauses are the branches of the model's check, in R136's order. -/
theorem encryptErrors : Obligations.EncryptErrors := by
  unfold Obligations.EncryptErrors
  intro par s
  refine ⟨fun hrange => ?_, fun hlen hkey => ?_, fun hlen hkey hcap => ?_⟩
  · exact exec_encrypt_of_error (c := .lenRange) (if_pos hrange) (by decide)
  · refine exec_encrypt_of_error (c := .noKey) ?_ (by decide)
    rw [State.encryptError, if_neg (by omega), if_pos hkey]
  · refine exec_encrypt_of_error (c := .capacity) ?_ (by decide)
    rw [State.encryptError, if_neg (by omega), if_neg (by simp [hkey]), if_pos hcap]

/-- The marker recovered before any byte is written is the unmixed byte before the last eight (45_transform.md R117). -/
theorem State.recoveredMarker_eq_unmixedByte (s : State) :
    s.recoveredMarker Config.chip = s.unmixedByte (s.len.toNat - 9) := rfl

/-- Settles O16: the clauses are the branches of the model's check, in R136's order. -/
theorem decryptErrors : Obligations.DecryptErrors := by
  unfold Obligations.DecryptErrors
  intro par s
  refine ⟨fun hrange => ?_, fun hlen hkey => ?_, fun hlen hkey hshort => ?_, fun hlen hkey hlong hle hlt => ?_⟩
  · exact exec_decrypt_of_error (c := .lenRange) (if_pos hrange) (by decide)
  · refine exec_decrypt_of_error (c := .noKey) ?_ (by decide)
    rw [State.decryptError, if_neg (by omega), if_pos hkey]
  · refine exec_decrypt_of_error (c := .decShort) ?_ (by decide)
    rw [State.decryptError, if_neg (by omega), if_neg (by simp [hkey]), if_pos hshort]
  · have inconsistent : markerInconsistent (s.len.toNat - 8) (s.recoveredMarker Config.chip) = true := by
      rw [← Bool.not_eq_false, markerInconsistent_eq_false_iff, s.recoveredMarker_eq_unmixedByte]
      omega
    refine exec_decrypt_of_error (c := .decMarker) ?_ (by decide)
    rw [State.decryptError, if_neg (by omega), if_neg (by simp [hkey]), if_neg (by omega), if_pos inconsistent]

/-! ## The length and the draws of an ENCRYPT -/

section
variable {cfg : Config} {s : State} {par : Bool}

/-- An ENCRYPT without an error has run its body (45_transform.md R115). -/
theorem State.encrypt_of_ok (hok : (s.encrypt cfg par).err = false) :
    max 16 s.len.toNat + 9 ≤ cfg.bufCap ∧ s.encrypt cfg par = s.encryptBody cfg par := by
  rcases s.encrypt_cases cfg par with ⟨c, hc, h⟩ | body
  · exact absurd hok (by simp [h, hc])
  · exact body

theorem State.encrypt_len_of_ok (hok : (s.encrypt cfg par).err = false) :
    (s.encrypt cfg par).len.toNat = max 16 s.len.toNat + 9 := by
  obtain ⟨hfit, body⟩ := State.encrypt_of_ok hok
  rw [body, State.encryptBody_len hfit]

variable (cfg s par)

/-- The padding draws, then the eight offsets (45_transform.md R121). -/
theorem State.encryptBody_draws : (s.encryptBody cfg par).draws = s.draws + (16 - s.len.toNat) + 8 := rfl

theorem State.encrypt_draws :
    (s.encrypt cfg par).draws =
      s.draws + if (s.encrypt cfg par).err = true then 0 else 16 - s.len.toNat + 8 := by
  rcases s.encrypt_cases cfg par with ⟨c, hc, h⟩ | ⟨-, h⟩ <;> rw [h]
  · simp [hc]
  · exact s.encryptBody_draws cfg par

theorem State.decrypt_draws : (s.decrypt cfg par).draws = s.draws := by
  rcases s.decrypt_cases cfg par with ⟨c, -, h⟩ | ⟨-, -, h⟩ <;> rw [h]
  · rfl
  · exact s.decryptBody_draws par

end

/-- Settles O19, by the length of the body's result. -/
theorem encryptLengthGrowth : Obligations.EncryptLengthGrowth := by
  unfold Obligations.EncryptLengthGrowth
  intro par s t h hok
  injection h with h
  subst h
  rw [State.encrypt_len_of_ok hok]
  split_ifs <;> omega

/-- Settles O20, by the draws of each command's function. -/
theorem drawCount : Obligations.DrawCount := by
  unfold Obligations.DrawCount
  intro i s t h
  cases i with
  | loadkey =>
    injection h with h
    exact h ▸ rfl
  | encrypt par =>
    injection h with h
    subst h
    rw [State.encrypt_draws]
    dsimp only
    split_ifs <;> omega
  | decrypt par =>
    injection h with h
    exact h ▸ s.decrypt_draws Config.chip par

section
variable (cfg : Config) (s : State)

theorem State.writeEffect_draws (a : HostAccess) : (s.writeEffect cfg a).draws = s.draws := by
  rcases s.writeEffect_cases cfg a with
    ⟨_, _, h⟩ | ⟨_, _, h⟩ | ⟨_, _, _, _, _, h⟩ | ⟨_, _, _, _, _, h⟩ | ⟨_, _, _, _, _, h⟩ | h <;> rw [h] <;> rfl

theorem State.violationEffect_draws (a : HostAccess) : (s.violationEffect cfg a).draws = s.draws := by
  rcases s.violationEffect_cases cfg a with ⟨_, _, _, _, _, h⟩ | h <;> rw [h]
  rfl

theorem State.hostAccess_draws (a : HostAccess) : (s.hostAccess cfg a).draws = s.draws :=
  s.hostAccess_induct cfg (fun t => t.draws = s.draws) a
    (reading := fun _ _ h => h) (mark := fun _ _ h => h) (free := fun _ h => h)
    (violation := fun _ => s.violationEffect_draws cfg a) (effect := fun _ => s.writeEffect_draws cfg a)

/-- The random source answers the engine only (00_scope.md R17). -/
theorem State.hostStep_draws : (s.hostStep cfg).draws = s.draws :=
  s.hostStep_induct cfg (fun t => t.draws = s.draws) rfl (program := fun _ _ h => h)
    (access := fun t a h => (t.hostAccess_draws cfg a).trans h)

end

/-- Settles O40, by the agent that moves; of the commands by their draw counts. -/
theorem onlyEncryptDraws : Obligations.OnlyEncryptDraws := by
  unfold Obligations.OnlyEncryptDraws
  intro s t h hne
  rcases step_cases h with ⟨ts, i, hb, hd, he⟩ | ⟨ts, r, -, -, rfl⟩ | ⟨ts, rfl⟩ | ⟨ts, rfl⟩ | ⟨ts, rfl⟩
  · have count := drawCount i (s.setTurns ts) t he
    cases i with
    | loadkey => exact absurd count hne
    | decrypt par => exact absurd count hne
    | encrypt par =>
      simp only [State.setTurns_draws] at count
      cases herr : t.err with
      | true => exact absurd count (by simpa [herr] using hne)
      | false =>
        refine ⟨hb, ⟨par, hd⟩, rfl, ?_⟩
        simp only [herr] at count
        split_ifs at count <;> omega
  · exact absurd rfl hne
  · exact absurd (State.hostStep_draws Config.chip (s.setTurns ts)) hne
  · exact absurd rfl hne
  · exact absurd rfl hne

/-! ## The round trip -/

/-- `u` holds what an ENCRYPT in `s` leaves: its length, the mixed region and the embedded offsets, with the key
registers of `s` (45_transform.md R115). -/
structure State.HoldsEncryptionOf (u s : State) : Prop where
  keyState : u.keyState = s.keyState
  len : u.len.toNat = max 16 s.len.toNat + 9
  mixed : ∀ j, j ≤ max 16 s.len.toNat →
    u.bufByte Config.chip j = encByte (s.normalizedByte j) (cryptoOffset s.key s.drawnOffsets j)
  embedded : ∀ k, k < 8 →
    u.bufByte Config.chip (max 16 s.len.toNat + 1 + k) = offByte s.drawnOffsets k + hashByte s.khash k

section
variable {s t u : State}

theorem State.holdsEncryptionOf_of_exec {par : Bool} (hkey : s.keyValid = true)
    (hfit : max 16 s.len.toNat + 9 ≤ Config.chip.bufCap) (h : exec (.encrypt par) s = .next t) :
    t.HoldsEncryptionOf s := by
  obtain ⟨t', h', len, mixed, embedded, -⟩ := encryptResult par s hkey hfit
  injection h.symm.trans h' with same
  subst same
  injection h with h
  exact ⟨h ▸ s.encrypt_keyState Config.chip par, len, mixed, embedded⟩

/-- What leaves the key registers, LEN and the bytes below LEN leaves the encryption. -/
theorem State.HoldsEncryptionOf.of_same (h : t.HoldsEncryptionOf s) (hkeys : u.keyState = t.keyState)
    (hlen : u.len = t.len) (hbyte : ∀ j, j < t.len.toNat → u.bufByte Config.chip j = t.bufByte Config.chip j) :
    u.HoldsEncryptionOf s where
  keyState := hkeys.trans h.keyState
  len := hlen ▸ h.len
  mixed j hj := (hbyte j (by have := h.len; omega)).trans (h.mixed j hj)
  embedded k hk := (hbyte _ (by have := h.len; omega)).trans (h.embedded k hk)

theorem State.normalizedByte_of_lt {j : Nat} (hj : j < s.len.toNat) :
    s.normalizedByte j = s.bufByte Config.chip j := if_pos hj

theorem State.normalizedByte_marker (s : State) :
    s.normalizedByte (max 16 s.len.toNat) = markerByte s.len.toNat := by
  rw [← State.bufByte_normalize_eq_normalizedByte _ le_rfl, State.bufByte_normalize_marker]

namespace State.HoldsEncryptionOf

variable (h : u.HoldsEncryptionOf s)
include h

theorem key_eq : u.key = s.key := congrArg KeyState.key h.keyState

theorem khash_eq : u.khash = s.khash := congrArg KeyState.khash h.keyState

theorem keyValid_eq : u.keyValid = s.keyValid := congrArg KeyState.keyValid h.keyState

/-- EXTRACT recovers the drawn offsets (43_offset_embedder.md R97). -/
theorem recoveredOffsets_eq : u.recoveredOffsets = s.drawnOffsets := by
  have start : u.len.toNat - 8 = max 16 s.len.toNat + 1 := by have := h.len; omega
  refine offByte_ext fun k hk => ?_
  rw [State.recoveredOffsets, offByte_offsetsOf _ hk, start, h.embedded k hk, h.khash_eq, BitVec.add_sub_cancel]

/-- UNMIX recovers the normalized bytes (44_byte_mixer.md R110). -/
theorem unmixedByte_eq {j : Nat} (hj : j ≤ max 16 s.len.toNat) : u.unmixedByte j = s.normalizedByte j := by
  rw [State.unmixedByte, h.mixed j hj, h.recoveredOffsets_eq, h.key_eq, decByte_encByte]

theorem unmixedByte_marker :
    (u.unmixedByte (u.len.toNat - 9)).toNat = if s.len.toNat ≤ 16 then s.len.toNat else 17 := by
  rw [h.len, Nat.add_sub_cancel, h.unmixedByte_eq le_rfl, State.normalizedByte_marker, markerByte_toNat]

/-- DECRYPT of an encryption gives the length and the bytes back (45_transform.md R122). -/
theorem decrypt_restores (par : Bool) (hkey : s.keyValid = true) (hfit : max 16 s.len.toNat + 9 ≤ Config.chip.bufCap) :
    ∃ v, exec (.decrypt par) u = .next v ∧ v.err = false ∧ v.errcode = 0 ∧ v.len = s.len ∧
      ∀ j, j < s.len.toNat → v.bufByte Config.chip j = s.bufByte Config.chip j := by
  have ulen := h.len
  have marker := h.unmixedByte_marker
  obtain ⟨v, hv, vlen, bytes, -, -, -, -, herr, hcode, -⟩ := decryptResult par u (h.keyValid_eq.trans hkey)
    (by omega) (by omega) (by split_ifs at marker <;> omega)
  have restored : v.len.toNat = s.len.toNat := by split_ifs at vlen marker <;> omega
  refine ⟨v, hv, herr, hcode, BitVec.eq_of_toNat_eq restored, fun j hj => ?_⟩
  rw [bytes j (by omega), h.unmixedByte_eq (by omega), State.normalizedByte_of_lt hj]

end State.HoldsEncryptionOf

end

/-- Settles O21: the state between still holds the encryption, whose offsets, marker and bytes DECRYPT recovers. -/
theorem decryptUndoesEncrypt : Obligations.DecryptUndoesEncrypt := by
  unfold Obligations.DecryptUndoesEncrypt
  intro par par' s t u hkey hfit h key khash keyValid len bytes
  have keys : u.keyState = t.keyState := by simp only [State.keyState, key, khash, keyValid]
  have holds := (State.holdsEncryptionOf_of_exec hkey hfit h).of_same keys len bytes
  exact holds.decrypt_restores par' hkey hfit

/-! ## What the results depend on -/

section
variable {cfg : Config} {s : State} {par : Bool}

/-- A DECRYPT without an error has found a long enough buffer and a consistent marker, and has run its body
(45_transform.md R116). -/
theorem State.decrypt_of_ok (hok : (s.decrypt cfg par).err = false) :
    9 ≤ s.len.toNat ∧ markerInconsistent (s.len.toNat - 8) (s.recoveredMarker cfg) = false ∧
      s.decrypt cfg par = s.decryptBody cfg par := by
  rcases s.decrypt_cases cfg par with ⟨c, hc, h⟩ | ⟨hlong, hfit, body⟩
  · exact absurd hok (by simp [h, hc])
  · refine ⟨hlong, ?_, body⟩
    by_contra hmarker
    simp only [State.decrypt, State.decryptError, if_neg (Nat.not_lt.2 hlong), if_neg (Nat.not_lt.2 hfit),
      if_pos (Bool.of_not_eq_false hmarker)] at hok
    split_ifs at hok <;> simp at hok

end

/-- Two machines that agree on KEY, the key hash, N and BUF[0..N), all that R123 lets a result depend on beside the
draws. -/
structure State.SameInput (cfg cfg' : Config) (s s' : State) : Prop where
  key : s.key = s'.key
  khash : s.khash = s'.khash
  len : s.len = s'.len
  byte : ∀ j, j < s.len.toNat → s.bufByte cfg j = s'.bufByte cfg' j

namespace State.SameInput

variable {cfg cfg' : Config} {s s' : State} {par par' : Bool}

/-! ENCRYPT. -/

section
variable (h : State.SameInput cfg cfg' s s') (hdraw : ∀ k, cfg.draw (s.draws + k) = cfg'.draw (s'.draws + k))
include h hdraw

theorem bufByte_normalize_eq {j : Nat} (hj : j ≤ max 16 s.len.toNat) :
    (s.normalize cfg s.len.toNat).bufByte cfg j = (s'.normalize cfg' s'.len.toNat).bufByte cfg' j := by
  rw [State.bufByte_normalize, State.bufByte_normalize, ← h.len, hdraw]
  by_cases original : j < s.len.toNat
  · rw [h.byte j original]
  · by_cases marker : j = max 16 s.len.toNat
    · rw [if_pos marker, if_pos marker]
    · have padding : s.len.toNat ≤ j ∧ j < 16 := by omega
      rw [if_neg marker, if_neg marker, if_pos padding, if_pos padding]

theorem offsetGen_off_eq :
    ((s.normalize cfg s.len.toNat).offsetGen cfg).off = ((s'.normalize cfg' s'.len.toNat).offsetGen cfg').off := by
  simp only [State.offsetGen_off, State.normalize_draws, Nat.add_assoc, hdraw, h.len]

theorem bufByte_encryptBody_eq {j : Nat} (hj : j < max 16 s.len.toNat + 9) :
    (s.encryptBody cfg par).bufByte cfg j = (s'.encryptBody cfg' par').bufByte cfg' j := by
  by_cases region : j ≤ max 16 s.len.toNat
  · rw [State.bufByte_encryptBody_of_le_marker _ _ region,
      State.bufByte_encryptBody_of_le_marker _ _ (h.len ▸ region), h.bufByte_normalize_eq hdraw region,
      h.offsetGen_off_eq hdraw, h.key]
  · obtain ⟨k, rfl⟩ : ∃ k, j = max 16 s.len.toNat + 1 + k := ⟨j - (max 16 s.len.toNat + 1), by omega⟩
    have hk : k < 8 := by omega
    rw [State.bufByte_encryptBody_embedded _ _ hk, h.offsetGen_off_eq hdraw, h.khash, h.len,
      State.bufByte_encryptBody_embedded _ _ hk]

/-- R123 for ENCRYPT. -/
theorem encrypt_determined (hok : (s.encrypt cfg par).err = false) (hok' : (s'.encrypt cfg' par').err = false) :
    (s.encrypt cfg par).len = (s'.encrypt cfg' par').len ∧
      ∀ j, j < (s.encrypt cfg par).len.toNat →
        (s.encrypt cfg par).bufByte cfg j = (s'.encrypt cfg' par').bufByte cfg' j := by
  refine ⟨BitVec.eq_of_toNat_eq ?_, fun j hj => ?_⟩
  · rw [State.encrypt_len_of_ok hok, State.encrypt_len_of_ok hok', h.len]
  · rw [State.encrypt_len_of_ok hok] at hj
    rw [(State.encrypt_of_ok hok).2, (State.encrypt_of_ok hok').2, h.bufByte_encryptBody_eq hdraw hj]

end

/-! DECRYPT. -/

variable (h : State.SameInput cfg cfg' s s')
include h

section
variable (hlong : 9 ≤ s.len.toNat)
include hlong

theorem extract_off_eq :
    (s.extract cfg (s.len.toNat - 8)).off = (s'.extract cfg' (s'.len.toNat - 8)).off := by
  refine offByte_ext fun k hk => ?_
  rw [State.offByte_extract _ _ _ hk, State.offByte_extract _ _ _ hk, ← h.len, h.khash, h.byte _ (by omega)]

theorem recoveredMarker_eq : s.recoveredMarker cfg = s'.recoveredMarker cfg' := by
  simp only [State.recoveredMarker, State.bufByte_extract, State.extract_key, h.extract_off_eq hlong, h.key, ← h.len,
    h.byte (s.len.toNat - 8 - 1) (by omega)]

theorem decryptedLength_eq : s.decryptedLength cfg = s'.decryptedLength cfg' := by
  rw [State.decryptedLength, State.decryptedLength, h.recoveredMarker_eq hlong, h.len]

end

/-- R123 for DECRYPT. -/
theorem decrypt_determined (hok : (s.decrypt cfg par).err = false) (hok' : (s'.decrypt cfg' par').err = false) :
    (s.decrypt cfg par).len = (s'.decrypt cfg' par').len ∧
      ∀ j, j < (s.decrypt cfg par).len.toNat →
        (s.decrypt cfg par).bufByte cfg j = (s'.decrypt cfg' par').bufByte cfg' j := by
  obtain ⟨hlong, hmarker, body⟩ := State.decrypt_of_ok hok
  obtain ⟨hlong', hmarker', body'⟩ := State.decrypt_of_ok hok'
  have len := State.decryptBody_len par hlong hmarker
  have len' := State.decryptBody_len par' hlong' hmarker'
  have restored := h.decryptedLength_eq hlong
  have below := State.decryptedLength_le hmarker
  rw [body, body']
  refine ⟨BitVec.eq_of_toNat_eq (by rw [len, len', restored]), fun j hj => ?_⟩
  rw [len] at hj
  rw [State.bufByte_decryptBody_of_lt par hlong hmarker hj,
    State.bufByte_decryptBody_of_lt par' hlong' hmarker' (restored ▸ hj), h.extract_off_eq hlong, h.key,
    h.byte j (by omega)]

end State.SameInput

/-- Settles O23: of two machines with the same input each stage leaves the same bytes and the same offsets. -/
theorem resultsAreDetermined : Obligations.ResultsAreDetermined := by
  unfold Obligations.ResultsAreDetermined
  intro cfg cfg' par par' s s' key khash len bytes
  have same : State.SameInput cfg cfg' s s' := ⟨key, khash, len, bytes⟩
  exact ⟨fun draws => same.encrypt_determined draws, same.decrypt_determined⟩

end Sys2Proof.Machine


/-! Proofs of the family 60_exceptions.md: a command that ends with an error has changed STATUS and the OFF latch
only. -/

namespace Sys2Proof.Machine

section
variable {s : State} {par : Bool}

/-- An ENCRYPT that ends with an error has raised it, since its body completes with ERR 0 (60_exceptions.md R137). -/
theorem State.encrypt_eq_failed_of_err (herr : (s.encrypt Config.chip par).err = true) :
    s.encrypt Config.chip par = s.failed (s.encrypt Config.chip par).errcode := by
  rcases s.encrypt_cases Config.chip par with ⟨c, hc, raised⟩ | ⟨-, body⟩
  · rw [raised, State.raiseError_errcode, State.raiseError_eq_failed hc]
  · rw [body, State.encryptBody, State.complete_err] at herr
    contradiction

/-- A DECRYPT that ends with an error has raised it, since its body completes with ERR 0 (60_exceptions.md R137). -/
theorem State.decrypt_eq_failed_of_err (herr : (s.decrypt Config.chip par).err = true) :
    s.decrypt Config.chip par = s.failed (s.decrypt Config.chip par).errcode := by
  rcases s.decrypt_cases Config.chip par with ⟨c, hc, raised⟩ | ⟨-, -, body⟩
  · rw [raised, State.raiseError_errcode, State.raiseError_eq_failed hc]
  · rw [body, State.decryptBody, State.complete_err] at herr
    contradiction

end

/-- Settles O17: LOADKEY always completes with ERR 0 (41_key.md R75), and the other commands either raise an error or
complete with ERR 0. -/
theorem errorsArePrecise : Obligations.ErrorsArePrecise := by
  unfold Obligations.ErrorsArePrecise
  intro i s t next herr
  cases i with
  | loadkey =>
    rw [exec_loadkey] at next
    cases next
    rw [State.loadKey_err] at herr
    contradiction
  | encrypt par =>
    rw [exec_encrypt] at next
    cases next
    exact ⟨by simp, State.encrypt_eq_failed_of_err herr⟩
  | decrypt par =>
    rw [exec_decrypt] at next
    cases next
    exact ⟨by simp, State.decrypt_eq_failed_of_err herr⟩

end Sys2Proof.Machine

/-! Proofs of the family 70_reset_and_hazards.md: the sticky fault mark (R157) and the reset (R150, R151). -/

namespace Sys2Proof.Machine

/-! ## The fault mark -/

@[simp] theorem State.transformFrame_mark (s : State) : s.transformFrame.mark = s.mark := rfl

/-- The mark is the host's violations' only (R157), so it is a part of a transform's frame. -/
theorem State.encrypt_mark (cfg : Config) (s : State) (par : Bool) : (s.encrypt cfg par).mark = s.mark := by
  rw [← State.transformFrame_mark, s.encrypt_transformFrame, State.transformFrame_mark]

theorem State.decrypt_mark (cfg : Config) (s : State) (par : Bool) : (s.decrypt cfg par).mark = s.mark := by
  rw [← State.transformFrame_mark, s.decrypt_transformFrame, State.transformFrame_mark]

theorem exec_mark {s t : State} {i : Instr} (h : exec i s = .next t) : t.mark = s.mark := by
  cases i <;> injection h with h <;> subst h
  · exact s.loadKey_mark _
  · exact s.encrypt_mark _ _
  · exact s.decrypt_mark _ _

section
variable {cfg : Config} {s : State} {v : Violation}

/-- A second violation does not replace the first (log 8). -/
theorem State.setMark_mark_of_some (hs : s.mark = some v) (u : Violation) : (s.setMark u).mark = some v := by
  rw [State.setMark_mark, hs, Option.some_or]

theorem State.writeEffect_mark (a : HostAccess) : (s.writeEffect cfg a).mark = s.mark := by
  rcases s.writeEffect_cases cfg a with
    ⟨_, _, h⟩ | ⟨_, _, h⟩ | ⟨_, _, _, _, _, h⟩ | ⟨_, _, _, _, _, h⟩ | ⟨_, _, _, _, _, h⟩ | h <;> rw [h] <;> rfl

theorem State.violationEffect_mark (a : HostAccess) : (s.violationEffect cfg a).mark = s.mark := by
  rcases s.violationEffect_cases cfg a with ⟨_, _, _, _, _, h⟩ | h <;> rw [h]
  exact s.overrun_mark

theorem State.hostAccess_mark_of_some (hs : s.mark = some v) (a : HostAccess) :
    (s.hostAccess cfg a).mark = some v :=
  s.hostAccess_induct cfg (fun t => t.mark = some v) a
    (reading := fun _ _ h => h) (mark := fun _ u h => State.setMark_mark_of_some h u) (free := fun _ h => h)
    (violation := fun _ => (State.violationEffect_mark a).trans hs)
    (effect := fun _ => (State.writeEffect_mark a).trans hs)

theorem State.hostStep_mark_of_some (hs : s.mark = some v) : (s.hostStep cfg).mark = some v :=
  s.hostStep_induct cfg (fun t => t.mark = some v) hs (program := fun _ _ h => h)
    (access := fun _ a h => State.hostAccess_mark_of_some h a)

end

/-- Settles O39, by the agent that moves: only a violating access writes the mark, and it keeps the first. -/
theorem markIsSticky : Obligations.MarkIsSticky := by
  unfold Obligations.MarkIsSticky
  intro s t v hs h
  rcases step_cases h with ⟨ts, i, -, -, he⟩ | ⟨ts, r, -, -, rfl⟩ | ⟨ts, rfl⟩ | ⟨ts, rfl⟩ | ⟨ts, rfl⟩
  · rw [exec_mark he, State.setTurns_mark, hs]
  · rw [State.raiseError_mark, State.setTurns_mark, hs]
  · exact State.hostStep_mark_of_some ((s.setTurns_mark ts).trans hs)
  · rw [State.applyReset_mark, State.setTurns_mark, hs]
  · rw [State.setTurns_mark, hs]

/-! ## The reset -/

/-- Settles O32: the reset turn answers `applyReset`, whose fields are the reset values and what it keeps. -/
theorem resetTurnResets : Obligations.ResetTurnResets := by
  unfold Obligations.ResetTurnResets
  intro s ts ht
  exact ⟨_, step_of_turns_reset ht, by simp⟩

/-- Every byte of a file at its reset value is 0. -/
theorem fileByte_replicate_zero (k : Nat) : fileByte (Vector.replicate 16 0) k = 0 :=
  Vector.getElem_replicate _

theorem State.reset_statusWord : State.reset.statusWord = 0 := by decide

/-- Settles O33: the fields as `State.reset` lists them, and three registers that the host may read of an idle block. -/
theorem resetValues : Obligations.ResetValues := by
  unfold Obligations.ResetValues
  have status : State.reset.reads (.read32 0x004) State.reset.statusWord :=
    State.reads_read32 (.inl rfl) rfl (by decide)
  rw [State.reset_statusWord] at status
  exact ⟨rfl, rfl, rfl, rfl, rfl, rfl, rfl, rfl, rfl, fun k => ⟨fileByte_replicate_zero k, fileByte_replicate_zero k⟩,
    State.reads_read32 (.inl rfl) rfl (by decide), status, State.reads_read32 (.inl rfl) rfl (by decide)⟩

end Sys2Proof.Machine
